-- ==== Sys2Proof/Word.lean ====
section
/-! DEFINITION. The base types of the OWD block: levels, pin directions and pulls, bytes (00_scope.md R9, 30_encoding.md R68). -/

namespace Sys2Proof

/-- A logic level of the wire (R9, R68): `LOW = 0`, `HIGH = 1`. -/
inductive Level where
  | low
  | high
deriving DecidableEq, Repr, Inhabited

/-- Pin direction (R68): `INPUT = 0`, `OUTPUT = 1`. -/
inductive Dir where
  | input
  | output
deriving DecidableEq, Repr

/-- Pull setting (R68): `NONE = 0`, `UP = 1`, `DOWN = 2`; the block never passes `DOWN`. -/
inductive Pull where
  | none
  | up
  | down
deriving DecidableEq, Repr

/-- One byte of the frame (R62). -/
abbrev Byte := BitVec 8

/-- The numeric code of a level (R68). -/
def Level.toNat : Level → Nat
  | .low => 0
  | .high => 1

/-- The other level. -/
def Level.other : Level → Level
  | .low => .high
  | .high => .low

/-- The numeric code of a direction (R68). -/
def Dir.toNat : Dir → Nat
  | .input => 0
  | .output => 1

/-- The numeric code of a pull setting (R68). -/
def Pull.toNat : Pull → Nat
  | .none => 0
  | .up => 1
  | .down => 2

end Sys2Proof
end

