-- ==== Sys2Proof/Config.lean ====
section
/-! DEFINITION. What an implementation fixes (00_scope.md R8) and the free values of the environment (20_memory.md R47,
60_exceptions.md R164). -/

namespace Sys2Proof

/-- The parameters R8 leaves open, each with the default R8 shows. A `Params` is fixed for a machine: it rides in the state
so that every statement is about every value of it, and no step changes it (log 12). -/
structure Params where
  /-- `CAL_READS`: number of pin reads the Calibrator times (R8, D6). -/
  calReads : Nat := 10000
  /-- `T_IDLE_MS`: the hold requested in step 1 of the handshake (R8, R92). -/
  tIdleMs : Nat := 50
  /-- `T_START_MS`: the hold requested in step 2 of the handshake (R8, R93). -/
  tStartMs : Nat := 20
deriving DecidableEq, Repr

namespace Config

/-- `INTERVAL_NS` (R8, C3): the real-time interval the loop bound represents, fixed. -/
def intervalNs : Nat := 150000

/-- `TAIL_LEN` (R8): the entries of `raw` the Classifier consumes, fixed. -/
def tailLen : Nat := 80

/-- Nanoseconds in a second: the window is in whole seconds, the clock in nanoseconds (R8, R132). -/
def nsPerSecond : Nat := 1000000000

/-- FREE VALUE (log 1). The answer of the `k`-th `PinRead()` where the state scripts none: R47 gives it no law. -/
opaque freeLevel : Nat → Level

/-- FREE VALUE (log 2). How far the clock has advanced at the `k`-th `Clock()` where the state scripts no advance: R164 says
only that answers never decrease. -/
opaque freeAdvance : Nat → Nat

end Config

end Sys2Proof
end

