-- ==== Sys2Proof/Syntax.lean ====
section
/-! DEFINITION. The instructions: one constructor per row of spec/opcode_table.json, and the raw command of the host port
(30_encoding.md R69 to R71). -/

namespace Sys2Proof

/-- The instructions of the block: seven host operations (format HOSTCMD, R70), eight stage micro-operation rows (format
STAGE, R71). -/
inductive Instr where
  /-- CONSTRUCT pin, window (R81). The window is the pair of R21: a flag and a number of seconds. -/
  | construct (pin : Nat) (cacheDisabled : Bool) (windowS : Nat)
  /-- TEMPC (R135). -/
  | tempc
  /-- TEMPF (R136). -/
  | tempf
  /-- HUMID (R137). -/
  | humid
  /-- SINCE (R138). -/
  | since
  /-- FORCE (R139). -/
  | force
  /-- CLOSE (R140). -/
  | close
  /-- CALIBRATE, phase code 1 (R82). -/
  | calibrate
  /-- HANDSHAKE.1, phase code 4 (R92). -/
  | handshake1
  /-- HANDSHAKE.2, phase code 5 (R93). -/
  | handshake2
  /-- HANDSHAKE.3, phase code 6 (R94). -/
  | handshake3
  /-- POLL, phase code 7 (R95): one execution is the first sample or one poll step (R96). -/
  | poll
  /-- CLASSIFY, phase code 8 (R106). -/
  | classify
  /-- DECODE, phase code 9 (R119). -/
  | decode
  /-- COMMIT, phase code 10 (R123). -/
  | commit
deriving DecidableEq, Repr

/-- The two formats of the opcode table (R69, R71). -/
inductive Format where
  /-- A host operation, its code in `op[3:0]`. -/
  | hostCmd
  /-- A stage micro-operation, its code in `phase[3:0]`. -/
  | stage
deriving DecidableEq, Repr

/-- A command as the host port delivers it (R69): the 4-bit operation code and, beside it, CONSTRUCT's three operands. -/
structure HostCmd where
  op : BitVec 4
  pin : Nat
  cacheDisabled : Bool
  windowS : BitVec 32
deriving DecidableEq, Repr

end Sys2Proof
end

