-- ==== Sys2Proof/WellFormed.lean ====
section
/-! DEFINITION. Which instruction terms the encodings can express: CONSTRUCT's window is `WIN_W = 32` bits (10_state.md R21).
Nothing else is constrained: the pin identifier is opaque (D19) and no other instruction has an operand. -/

namespace Sys2Proof

/-- The instruction's operands fit their fields (R21, R69). -/
def Instr.wellFormed : Instr → Bool
  | .construct _ _ windowS => decide (windowS < 2 ^ 32)
  | .tempc => true
  | .tempf => true
  | .humid => true
  | .since => true
  | .force => true
  | .close => true
  | .calibrate => true
  | .handshake1 => true
  | .handshake2 => true
  | .handshake3 => true
  | .poll => true
  | .classify => true
  | .decode => true
  | .commit => true

end Sys2Proof
end

