-- ==== Sys2Proof/Decode.lean ====
section
/-! DEFINITION. The decoders of the two formats (30_encoding.md R69 to R71, R73) and the encoder, written from the code tables of
R70 and 10_state.md R18. The two formats use the same 4-bit numbers, so a word means something only together with its format:
the host port's `op` field or the sequencer's phase register. -/

namespace Sys2Proof

/-- What a decoder answers: an instruction, or by name why there is none. -/
inductive Decoded where
  | instr (i : Instr)
  /-- Operation codes 7 to 15 (R73 a). -/
  | reservedOp (op : BitVec 4)
  /-- Phase codes 0, 2, 3 and 11 rest: they select no micro-operation (R71). -/
  | restingPhase (code : BitVec 4)
  /-- Phase codes 12 to 15 are never taken (R18, R73 e). -/
  | unusedPhase (code : BitVec 4)
deriving DecidableEq, Repr

/-- The instruction a decoder found, if any. -/
def Decoded.instr? : Decoded → Option Instr
  | .instr i => some i
  | .reservedOp _ => none
  | .restingPhase _ => none
  | .unusedPhase _ => none

/-- The host port's decoder: the operation codes of R70; the side operands are read for CONSTRUCT only (R69). -/
def decodeHostCmd (c : HostCmd) : Decoded :=
  match c.op.toNat with
  | 0 => .instr (.construct c.pin c.cacheDisabled c.windowS.toNat)
  | 1 => .instr .tempc
  | 2 => .instr .tempf
  | 3 => .instr .humid
  | 4 => .instr .since
  | 5 => .instr .force
  | 6 => .instr .close
  | _ => .reservedOp c.op

/-- The sequencer's decoder: the stage micro-operation a phase code selects (R18, R71). -/
def decodeStage (code : BitVec 4) : Decoded :=
  match code.toNat with
  | 1 => .instr .calibrate
  | 4 => .instr .handshake1
  | 5 => .instr .handshake2
  | 6 => .instr .handshake3
  | 7 => .instr .poll
  | 8 => .instr .classify
  | 9 => .instr .decode
  | 10 => .instr .commit
  | 0 => .restingPhase code
  | 2 => .restingPhase code
  | 3 => .restingPhase code
  | 11 => .restingPhase code
  | _ => .unusedPhase code

/-- A command read from one word: `op` in bits 3..0 as R69 says; the places of the operands "delivered beside it" are the
model's DESIGN CHOICE (log 10): `cache_disabled` in bit 4, `window_s` in bits 36..5, the pin identifier from bit 37 up. -/
def HostCmd.ofWord (w : Nat) : HostCmd where
  op := BitVec.ofNat 4 w
  cacheDisabled := w / 2 ^ 4 % 2 == 1
  windowS := BitVec.ofNat 32 (w / 2 ^ 5)
  pin := w / 2 ^ 37

/-- The word of a command, in the layout of `HostCmd.ofWord`. -/
def HostCmd.toWord (c : HostCmd) : Nat :=
  c.op.toNat + 2 ^ 4 * c.cacheDisabled.toNat + 2 ^ 5 * c.windowS.toNat + 2 ^ 37 * c.pin

/-- Decoding a word in a format; total, rejecting by name. -/
def decodeWord (f : Format) (w : Nat) : Decoded :=
  match f with
  | .hostCmd => decodeHostCmd (HostCmd.ofWord w)
  | .stage => decodeStage (BitVec.ofNat 4 w)

/-- The instruction read from a row's word of spec/opcode_table.json: the HOSTCMD reading where `op` is an assigned operation
code, else the STAGE reading. The table gives rows of both formats the same number (0x1 is TEMPC and CALIBRATE, 0x4 to 0x6
are SINCE, FORCE, CLOSE and the three HANDSHAKE rows); the number alone cannot tell them apart and the host's reading is
taken (log 10). -/
def decodeTableWord (nbits w : Nat) : Option Instr :=
  let v := w % 2 ^ nbits
  match decodeWord .hostCmd v with
  | .instr i => some i
  | _ => (decodeWord .stage v).instr?

/-- A command without side operands. -/
def HostCmd.plain (op : BitVec 4) : HostCmd where
  op := op
  pin := 0
  cacheDisabled := false
  windowS := 0

/-- The encoder: the format of an instruction and its word in that format (R18, R70, R71). -/
def encode : Instr → Format × Nat
  | .construct pin cacheDisabled windowS =>
    (.hostCmd, HostCmd.toWord ⟨0, pin, cacheDisabled, BitVec.ofNat 32 windowS⟩)
  | .tempc => (.hostCmd, HostCmd.toWord (.plain 1))
  | .tempf => (.hostCmd, HostCmd.toWord (.plain 2))
  | .humid => (.hostCmd, HostCmd.toWord (.plain 3))
  | .since => (.hostCmd, HostCmd.toWord (.plain 4))
  | .force => (.hostCmd, HostCmd.toWord (.plain 5))
  | .close => (.hostCmd, HostCmd.toWord (.plain 6))
  | .calibrate => (.stage, 1)
  | .handshake1 => (.stage, 4)
  | .handshake2 => (.stage, 5)
  | .handshake3 => (.stage, 6)
  | .poll => (.stage, 7)
  | .classify => (.stage, 8)
  | .decode => (.stage, 9)
  | .commit => (.stage, 10)

end Sys2Proof
end

