-- ==== Sys2Proof/Machine/State.lean ====
section
/-! DEFINITION. The state of one OWD block instance (10_state.md R13 to R29), the model's own fields for the places inside the
spec's pseudocode and for the environment, the reasons a step can stop, and the state after hardware reset. -/

namespace Sys2Proof.Machine

/-- The phase register (R18): the twelve phases the rules take. Codes 12 to 15 are never taken. -/
inductive Phase where
  | reset
  | cal
  | dead
  | idle
  | hsHigh
  | hsLow
  | hsRel
  | poll
  | classify
  | decode
  | commit
  | closed
deriving DecidableEq, Repr

/-- Which of the two interleaved subsequences carries the data (R14, R111). -/
inductive Sub where
  | a
  | b
deriving DecidableEq, Repr

/-- The RawSignal buffer (20_memory.md R41): entry `i` of the list is `raw[i]`, the oldest first. Entries are naturals, not
bytes, and their addresses are 0 .. len - 1 without gaps, so the list itself is the canonical form (log 11). -/
abbrev Memory := List Nat

/-- The working registers (R14). -/
structure Work where
  cur : Level
  cnt : Nat
  n : Nat
  t : Vector Nat 80
  sa : Nat
  sb : Nat
  qa : Nat
  qb : Nat
  va : Nat
  vb : Nat
  sel : Sub
  thr : Nat
  /-- `bits[j]`, the first transmitted at index 0; `true` is 1. -/
  bits : Vector Bool 40
  bytes : Vector Byte 5
  sum : BitVec 8
  ok : Bool
deriving DecidableEq, Repr

/-- `CFG`, the configuration record (R21). -/
structure Cfg where
  pin : Nat
  cacheDisabled : Bool
  windowS : BitVec 32
deriving DecidableEq, Repr

/-- `CAL`, the CalibrationProfile (R22). -/
structure Cal where
  maxIterations : Nat
deriving DecidableEq, Repr

/-- `RDG`, the Reading (R23). -/
structure Rdg where
  valid : Bool
  hum10 : BitVec 12
  temp10 : BitVec 12
  ts : Nat
deriving DecidableEq, Repr

/-- A raised fault with the information R151 records. CaptureTimeout is a mark and is never raised (R153). -/
inductive Raised where
  /-- CALIBRATE measured `T = t` (R85). -/
  | calibrationFailure (t : Nat)
  /-- CLASSIFY found `len(raw) = len` below 80 (R107). -/
  | insufficientSamples (len : Nat)
  /-- DECODE found `sum` different from `byte[4]` (R122). -/
  | checksumMismatch (bytes : Vector Byte 5) (sum : BitVec 8)
deriving DecidableEq, Repr

/-- `DIAG`, the diagnostic record (R25). -/
structure Diag where
  lastFault : BitVec 3
  cto : Bool
  lastLen : Nat
  /-- MODEL's own (log 14): the information of the last raise since `lastFault` was cleared (R151, last column). -/
  info : Option Raised
deriving DecidableEq, Repr

/-- `PIN`, the pin driver state (R26); `none` is the spec's *unspecified*. -/
structure PinState where
  dir : Option Dir
  pull : Option Pull
  out : Option Level
  owned : Bool
deriving DecidableEq, Repr

/-- MODEL's own (logs 3, 4): where the sequencer stands inside the pseudocode of a host operation, of POLL and of HANDSHAKE. -/
structure Seq where
  /-- The host operation whose `CALIBRATE()` or `ReadCycle()` call is in progress. -/
  pending : Option Instr
  /-- POLL has taken its first sample and is inside its loop. -/
  polling : Bool
  /-- A `Delay` has been requested that does not return (log 3). -/
  holding : Bool
deriving DecidableEq, Repr

/-- A response of a host operation (30_encoding.md R72). -/
inductive Response where
  | done
  | value (payload : Nat)
  | absent
  | isTrue
  | isFalse
  | calfail
  | refused
deriving DecidableEq, Repr

/-- MODEL's own (log 6): the host's side of the command port. -/
structure Port where
  /-- Host operations not yet accepted, oldest first. -/
  cmds : List HostCmd
  /-- Responses given, oldest first. -/
  rsps : List Response
deriving DecidableEq, Repr

/-- A call the block has made to a collaborator that answers nothing (20_memory.md R46, 60_exceptions.md R165). -/
inductive EnvCall where
  | setMode (pin : Nat) (dir : Dir) (pull : Pull)
  | write (pin : Nat) (level : Level)
  | delay (ms : Nat)
deriving DecidableEq, Repr

/-- MODEL's own (logs 1, 2, 3, 7, 18): the environment of R11 as plain data. -/
structure Env where
  /-- Scripted answers of the next `PinRead()` calls; when empty, `Config.freeLevel`. -/
  levels : List Level
  /-- Scripted advances of the clock at the next `Clock()` calls; when empty, `Config.freeAdvance`. -/
  advances : List Nat
  /-- `PinRead()` calls so far. -/
  pinReads : Nat
  /-- `Clock()` calls so far. -/
  clockReads : Nat
  /-- The last `Clock()` answer of this instance's life, in nanoseconds. -/
  now : Nat
  /-- For each coming `Delay` call, whether it returns; when empty they return, as R165 assumes. U15 leaves open which calls do
  not: DESIGN CHOICE, one scripted answer per call (log 3). -/
  delays : List Bool
  /-- For each coming hardware reset, the number of machine steps before it. -/
  resets : List Nat
  /-- `PinMode`, `PinWrite` and `Delay` calls issued, oldest first. -/
  calls : List EnvCall
deriving DecidableEq, Repr

/-- Everything the machine holds. -/
structure State where
  phase : Phase
  wk : Work
  cfg : Cfg
  cal : Cal
  rdg : Rdg
  diag : Diag
  pin : PinState
  raw : Memory
  seq : Seq
  port : Port
  par : Params
  env : Env
deriving DecidableEq, Repr

/-- Why a step stops with a fault. The spec's own faults (R151) are not here: they are taken, and end in a next state. -/
inductive Fault where
  /-- Raised by a load from `raw` outside `0 .. len(raw) - 1`, which "a model must give no value" (R43). Safe: the model stops.
  CLASSIFY's load is guarded by its length test, so no instruction reaches it. -/
  | rawReadOutOfRange
deriving DecidableEq, Repr

/-- Why a step has no meaning. -/
inductive Refusal where
  /-- Raised by `exec` for an instruction without a meaning; no arm uses it. Safe: the model stops. The spec's own refusal is
  the response `REFUSED` (R73), a next state. -/
  | notModelled (mnemonic : String)
deriving DecidableEq, Repr

/-- The working registers after reset. R29 leaves them unspecified: the values are DESIGN CHOICE (log 8). -/
def Work.reset : Work where
  cur := .low
  cnt := 0
  n := 0
  t := Vector.replicate 80 0
  sa := 0
  sb := 0
  qa := 0
  qb := 0
  va := 0
  vb := 0
  sel := .a
  thr := 0
  bits := Vector.replicate 40 false
  bytes := Vector.replicate 5 0
  sum := 0
  ok := false

/-- The machine right after hardware reset (R29, R176): `phase`, `RDG.valid`, `PIN.owned`, `DIAG.last_fault` and `DIAG.cto` as
the spec says, `PIN.dir`, `PIN.pull`, `PIN.out` *unspecified*, every other register at its named value (log 8), the model's own
fields empty (logs 1 to 7, 18), the parameters at R8's defaults. -/
def State.reset : State where
  phase := .reset
  wk := Work.reset
  cfg := { pin := 0, cacheDisabled := false, windowS := 0 }
  cal := { maxIterations := 0 }
  rdg := { valid := false, hum10 := 0, temp10 := 0, ts := 0 }
  diag := { lastFault := 0, cto := false, lastLen := 0, info := none }
  pin := { dir := none, pull := none, out := none, owned := false }
  raw := []
  seq := { pending := none, polling := false, holding := false }
  port := { cmds := [], rsps := [] }
  par := {}
  env :=
    { levels := [], advances := [], pinReads := 0, clockReads := 0, now := 0, delays := [], resets := [], calls := [] }

end Sys2Proof.Machine
end

