-- ==== Sys2Proof/Machine/Ops.lean ====
section
/-! DEFINITION. The named operations the meanings share: field updates, the RawSignal buffer, the collaborator calls of
00_scope.md R10, taking a fault (60_exceptions.md R156, R157), responses (30_encoding.md R72, R73), and hardware reset
(70_reset_and_hazards.md R176). -/

namespace Sys2Proof.Machine

/-- The code of a phase (10_state.md R18). -/
def Phase.code : Phase → BitVec 4
  | .reset => 0
  | .cal => 1
  | .dead => 2
  | .idle => 3
  | .hsHigh => 4
  | .hsLow => 5
  | .hsRel => 6
  | .poll => 7
  | .classify => 8
  | .decode => 9
  | .commit => 10
  | .closed => 11

/-- The phase of a code; codes 12 to 15 name none (R18). -/
def Phase.ofCode (c : BitVec 4) : Option Phase :=
  match c.toNat with
  | 0 => some .reset
  | 1 => some .cal
  | 2 => some .dead
  | 3 => some .idle
  | 4 => some .hsHigh
  | 5 => some .hsLow
  | 6 => some .hsRel
  | 7 => some .poll
  | 8 => some .classify
  | 9 => some .decode
  | 10 => some .commit
  | 11 => some .closed
  | _ => none

/-- The 3-bit kind code of a response (30_encoding.md R72). -/
def Response.kind : Response → BitVec 3
  | .done => 0
  | .value _ => 1
  | .absent => 2
  | .isTrue => 3
  | .isFalse => 4
  | .calfail => 5
  | .refused => 6

/-- The code `DIAG.last_fault` takes (60_exceptions.md R151). -/
def Raised.code : Raised → BitVec 3
  | .calibrationFailure _ => 1
  | .insufficientSamples _ => 3
  | .checksumMismatch _ _ => 4

/-! ### Field updates -/

def State.setPhase (s : State) (p : Phase) : State := { s with phase := p }

def State.setWk (s : State) (w : Work) : State := { s with wk := w }

def State.setRdg (s : State) (r : Rdg) : State := { s with rdg := r }

def State.setRaw (s : State) (m : Memory) : State := { s with raw := m }

def State.setSeq (s : State) (q : Seq) : State := { s with seq := q }

def State.setEnv (s : State) (e : Env) : State := { s with env := e }

def State.setCal (s : State) (c : Cal) : State := { s with cal := c }

/-! ### The RawSignal buffer (20_memory.md R41 to R44) -/

/-- Every entry of the buffer is below the loop bound (R44). -/
def Memory.wf (bound : Nat) (m : Memory) : Bool := m.all fun v => decide (v < bound)

/-- What the buffer reads as at one address; outside `0 .. len(raw) - 1` there is no value (R43). -/
def Memory.read (m : Memory) (addr : Nat) : Option Nat := m[addr]?

/-- `Append(raw, v)` (R42): one entry at address `len(raw)`. -/
def Memory.append (m : Memory) (v : Nat) : Memory := m ++ [v]

/-- `MemRead(addr, n)` (R10, R43): the `n` consecutive entries from `addr`, defined only when they all exist. -/
def Memory.load (m : Memory) (addr n : Nat) : Option (Vector Nat n) :=
  if h : addr + n ≤ m.length then
    some ⟨⟨(m.drop addr).take n⟩, by simp; omega⟩
  else none

/-! ### Collaborator calls (R10, R46, R164, R165) -/

/-- `PinMode(dir, pull)` on `CFG.pin` (R26, R46). -/
def State.pinMode (s : State) (dir : Dir) (pull : Pull) : State :=
  { s with
    pin := { s.pin with dir := some dir, pull := some pull }
    env := { s.env with calls := s.env.calls ++ [.setMode s.cfg.pin dir pull] } }

/-- `PinWrite(level)` on `CFG.pin` (R26, R46). -/
def State.pinWrite (s : State) (level : Level) : State :=
  { s with
    pin := { s.pin with out := some level }
    env := { s.env with calls := s.env.calls ++ [.write s.cfg.pin level] } }

/-- Whether the next `Delay` returns: scripted, else it does, as R165 assumes (U15; DESIGN CHOICE, log 3). -/
def Env.nextDelayReturns (e : Env) : Bool :=
  match e.delays with
  | [] => true
  | b :: _ => b

/-- The request `Delay(ms)` (R165): it has no result and no other effect. Each call consumes its own answer; one that does not
return leaves the hold in progress for ever (log 3). -/
def State.requestDelay (s : State) (ms : Nat) : State :=
  { s with
    seq := { s.seq with holding := !s.env.nextDelayReturns }
    env := { s.env with delays := s.env.delays.tail, calls := s.env.calls ++ [.delay ms] } }

/-- The answer of the next `PinRead()`: scripted, else free (R47, log 1). -/
def Env.nextLevel (e : Env) : Level :=
  match e.levels with
  | [] => Config.freeLevel e.pinReads
  | l :: _ => l

/-- `PinRead()`: consumes one answer (R47: two reads are two samples). -/
def State.afterPinRead (s : State) : State :=
  { s with env := { s.env with levels := s.env.levels.tail, pinReads := s.env.pinReads + 1 } }

/-- `k` consecutive `PinRead()` calls whose answers are discarded unseen (R82, R87). -/
def State.discardReads (s : State) (k : Nat) : State :=
  { s with env := { s.env with levels := s.env.levels.drop k, pinReads := s.env.pinReads + k } }

/-- How far the clock advances until the next `Clock()`: scripted, else free (R164, log 2). -/
def Env.nextAdvance (e : Env) : Nat :=
  match e.advances with
  | [] => Config.freeAdvance e.clockReads
  | a :: _ => a

/-- The answer of the next `Clock()`, never below the last (R164). -/
def Env.nextClock (e : Env) : Nat := e.now + e.nextAdvance

/-- `Clock()`: consumes one answer, which becomes `env.now`. -/
def State.afterClock (s : State) : State :=
  { s with
    env :=
      { s.env with
        advances := s.env.advances.tail
        clockReads := s.env.clockReads + 1
        now := s.env.nextClock } }

/-! ### Faults (60_exceptions.md R156, R157, R160) -/

/-- Taking a fault, one step. The fatal one goes to `DEAD` and writes nothing else (R157); the non-fatal ones clear `ok` and go
to `IDLE` (R156). Nothing is saved, there is no handler. There is no return operation (R160): the host operation whose call was
cut short continues, see `resuming`. -/
def State.raise (s : State) (f : Raised) : State :=
  match f with
  | .calibrationFailure _ =>
    { s with
      diag := { s.diag with lastFault := f.code, info := some f }
      phase := .dead }
  | .insufficientSamples _ =>
    { s with
      diag := { s.diag with lastFault := f.code, info := some f }
      wk := { s.wk with ok := false }
      phase := .idle }
  | .checksumMismatch _ _ =>
    { s with
      diag := { s.diag with lastFault := f.code, info := some f }
      wk := { s.wk with ok := false }
      phase := .idle }

/-- The host operation `op` is at the point after its `CALIBRATE()` or `ReadCycle()` call (R156: "Control returns to the host
operation that started the cycle"; log 4). -/
def State.resuming (s : State) (op : Instr) : Bool := s.seq.pending == some op

/-! ### Responses (30_encoding.md R72, R73) -/

/-- The operation responds. -/
def State.respond (s : State) (r : Response) : State :=
  { s with port := { s.port with rsps := s.port.rsps ++ [r] } }

/-- `refuse` (R10, R73): no effect on any state of the block, response `REFUSED`. -/
def State.refuse (s : State) : State := s.respond .refused

/-- The operation in progress responds and is over. -/
def State.finish (s : State) (r : Response) : State :=
  { s with
    seq := { s.seq with pending := none }
    port := { s.port with rsps := s.port.rsps ++ [r] } }

/-- The start of `ReadCycle()` inside the host operation `op` (44_cache_ops.md R133). -/
def State.startCycle (s : State) (op : Instr) : State :=
  { s with
    wk := { s.wk with ok := false }
    diag := { s.diag with lastFault := 0, cto := false, info := none }
    seq := { pending := some op, polling := false, holding := false }
    phase := .hsHigh }

/-! ### Hardware reset (70_reset_and_hazards.md R176, R178) -/

/-- Hardware reset of a running block: the five values of R176; no pin call, so `PIN.dir`, `PIN.pull`, `PIN.out` stay (D29,
R178); every other register, *unspecified*, at the value `State.reset` names (DESIGN CHOICE, log 7). The operation in progress
is abandoned without a response (R178). The host's queue, the answers still to come and the parameters are not the block's; the
clock's law binds one instance's life (R164), so `env.now` starts again. -/
def State.hardwareReset (s : State) : State :=
  { State.reset with
    pin := { s.pin with owned := false }
    port := s.port
    par := s.par
    env := { s.env with now := 0 } }

end Sys2Proof.Machine
end

