-- ==== Sys2Proof/Machine/Operands.lean ====
section
/-! DEFINITION. The operand forms: the two subsequences of the tail (42_classify.md R109), the packing of bits into bytes
(30_encoding.md R63), the assembly of values (R64, 43_decode.md R124, 44_cache_ops.md R136) and the window in nanoseconds
(R132). -/

namespace Sys2Proof.Machine

/-- The vector of the values of `f`. -/
def build {α : Type} {n : Nat} (f : Fin n → α) : Vector α n := ⟨⟨List.ofFn f⟩, by simp⟩

/-- Subsequence `A` of the tail: `A[j] = t[2j]` (R109). -/
def subA (t : Vector Nat 80) : Vector Nat 40 := build fun j => t[2 * j.val]

/-- Subsequence `B` of the tail: `B[j] = t[2j+1]` (R109). -/
def subB (t : Vector Nat 80) : Vector Nat 40 := build fun j => t[2 * j.val + 1]

/-- `Σ_j X[j]` (R110). -/
def sumOf (x : Vector Nat 40) : Nat := x.toList.sum

/-- `Σ_j X[j]²` (R110). -/
def sumSqOf (x : Vector Nat 40) : Nat := (x.toList.map fun v => v * v).sum

/-- Byte assembly: `byte[i] = Σ_{k=0..7} bits[8i+k] · 2^(7-k)`, the first transmitted bit the most significant (R63, R120). -/
def byteAt (bits : Vector Bool 40) (i : Fin 5) : Byte :=
  BitVec.ofNat 8 (List.ofFn fun k : Fin 8 => bits[8 * i.val + k.val].toNat * 2 ^ (7 - k.val)).sum

/-- The DataFrame of a BitSequence (R120). -/
def packBytes (bits : Vector Bool 40) : Vector Byte 5 := build fun i => byteAt bits i

/-- Humidity in tenths of a percent: `10 · byte[0] + byte[1]` (R124). -/
def humidityOf (bytes : Vector Byte 5) : BitVec 12 := BitVec.ofNat 12 (10 * bytes[0].toNat + bytes[1].toNat)

/-- Temperature in tenths of a degree Celsius: `10 · byte[2] + byte[3]` (R124). -/
def temperatureOf (bytes : Vector Byte 5) : BitVec 12 := BitVec.ofNat 12 (10 * bytes[2].toNat + bytes[3].toNat)

/-- TEMPC's payload (R135). -/
def Rdg.celsius10 (r : Rdg) : Nat := r.temp10.toNat

/-- TEMPF's payload, hundredths of a degree Fahrenheit: `18 · temp10 + 3200` (R136). -/
def Rdg.fahrenheit100 (r : Rdg) : Nat := 18 * r.temp10.toNat + 3200

/-- HUMID's payload (R137). -/
def Rdg.humidity10 (r : Rdg) : Nat := r.hum10.toNat

/-- The staleness window in nanoseconds: `CFG.window_s · 10^9` (R132). -/
def Cfg.windowNs (c : Cfg) : Nat := c.windowS.toNat * Config.nsPerSecond

end Sys2Proof.Machine
end

