-- ==== Sys2Proof/Machine/Flags.lean ====
section
/-! DEFINITION. The computed conditions (10_state.md R20: the block stores none of them; they are consumed in the step that
computes them): the calibration result (40_calibrate.md R84, R85), the dispersion statistic and the comparisons of CLASSIFY
(42_classify.md R110 to R113), the checksum (43_decode.md R121) and the elapsed time (44_cache_ops.md R132). -/

namespace Sys2Proof.Machine

/-- `floor(INTERVAL_NS · CAL_READS / T)` in exact arithmetic (R84); used with `T > 0`. -/
def loopBound (calReads t : Nat) : Nat := Config.intervalNs * calReads / t

/-- `V(X) = 40 · Σ X² − (Σ X)²`, never negative (R67, R110). -/
def dispersion (x : Vector Nat 40) : Nat := 40 * sumSqOf x - sumOf x * sumOf x

/-- The data subsequence: `A` when `VA > VB`, else `B`, the tie included (R111, R112, D14). -/
def selectSub (va vb : Nat) : Sub := if va > vb then .a else .b

/-- The bit of a data run: 1 when `40 · x` exceeds the sum of the marker subsequence (R113). -/
def bitOf (thr x : Nat) : Bool := decide (40 * x > thr)

/-- `(byte[0] + byte[1] + byte[2] + byte[3]) & 0xFF` (R121). -/
def checksum (bytes : Vector Byte 5) : BitVec 8 :=
  BitVec.ofNat 8 ((bytes[0].toNat + bytes[1].toNat + bytes[2].toNat + bytes[3].toNat) % 256)

/-- The elapsed time at the clock answer `now` has reached the window (R132, R144, D18). -/
def windowElapsed (s : State) (now : Nat) : Bool := decide (now - s.rdg.ts ≥ s.cfg.windowNs)

end Sys2Proof.Machine
end

