-- ==== Sys2Proof/Machine/Cache.lean ====
section
/-! DEFINITION. The Reading Cache and the host operations TEMPC, TEMPF, HUMID, SINCE, FORCE, CLOSE (44_cache_ops.md R131 to
R145). -/

namespace Sys2Proof.Machine

/-- `Stale()` draws the clock: a Reading exists and caching is enabled (R132, D30). -/
def State.staleDrawsClock (s : State) : Bool := s.rdg.valid && !s.cfg.cacheDisabled

/-- The state after `Stale()`: it writes no state of the block, it may consume a clock answer (R132). -/
def State.afterStale (s : State) : State := if s.staleDrawsClock then s.afterClock else s

/-- The answer of `Stale()` (R132). -/
def State.stale (s : State) : Bool := if s.staleDrawsClock then windowElapsed s s.env.nextClock else true

/-- The accessor skeleton (R134): after its cycle, or with a fresh Reading, the operation `deliver`s its response; a stale
Reading starts one cycle (R142); outside `IDLE` the operation is refused (R131). -/
def access (op : Instr) (deliver : State → State) (s : State) : State :=
  if s.resuming op then deliver s
  else if s.phase = .idle then
    if s.stale then s.afterStale.startCycle op else deliver s.afterStale
  else s.refuse

/-- The response of a value accessor: VALUE when a Reading is cached, else ABSENT (R134). -/
def deliverValue (f : Rdg → Nat) (s : State) : State :=
  if s.rdg.valid then s.finish (.value (f s.rdg)) else s.finish .absent

/-- The response of SINCE: the elapsed time by a clock answer drawn after the optional cycle (R138, D30). -/
def deliverSince (s : State) : State :=
  if s.rdg.valid then s.afterClock.finish (.value (s.env.nextClock - s.rdg.ts)) else s.finish .absent

/-- TEMPC (R135). -/
def execTempc (s : State) : Host.Outcome State Fault Refusal := .next (access .tempc (deliverValue Rdg.celsius10) s)

/-- TEMPF (R136). -/
def execTempf (s : State) : Host.Outcome State Fault Refusal := .next (access .tempf (deliverValue Rdg.fahrenheit100) s)

/-- HUMID (R137). -/
def execHumid (s : State) : Host.Outcome State Fault Refusal := .next (access .humid (deliverValue Rdg.humidity10) s)

/-- SINCE (R138). -/
def execSince (s : State) : Host.Outcome State Fault Refusal := .next (access .since deliverSince s)

/-- FORCE (R139): always one cycle, then TRUE or FALSE. -/
def execForce (s : State) : Host.Outcome State Fault Refusal :=
  if s.resuming .force then .next (if s.wk.ok then s.finish .isTrue else s.finish .isFalse)
  else if s.phase = .idle then .next (s.startCycle .force)
  else .next s.refuse

/-- The effect of CLOSE (R140): the pin is released, the Reading is no longer valid; no pin call (D28). -/
def closed (s : State) : State :=
  { s with
    pin := { s.pin with owned := false }
    rdg := { s.rdg with valid := false }
    phase := .closed }

/-- CLOSE (R140): accepted in `IDLE` and `DEAD`. -/
def execClose (s : State) : Host.Outcome State Fault Refusal :=
  if s.phase = .idle ∨ s.phase = .dead then .next ((closed s).respond .done) else .next s.refuse

end Sys2Proof.Machine
end

