-- ==== Sys2Proof/Machine/Capture.lean ====
section
/-! DEFINITION. The Signal Capturer: HANDSHAKE (41_capture.md R91 to R94) and POLL (R95 to R105). -/

namespace Sys2Proof.Machine

/-- The end of a hold: the phase moves on when the `Delay` just requested returns, and stays when it does not (R19, R165, U15).
DESIGN CHOICE, log 3: which `Delay` calls return is decided call by call, by `env.delays`. -/
def State.awaitDelay (s : State) (next : Phase) : State :=
  if s.seq.holding then s else s.setPhase next

/-- HANDSHAKE step 1 (R92): output, HIGH, hold. The calls are issued once; an execution that finds the hold in progress, on a
`Delay` that does not return, waits. -/
def execHandshake1 (s : State) : Host.Outcome State Fault Refusal :=
  if s.seq.holding then .next s
  else .next ((((s.pinMode .output .none).pinWrite .high).requestDelay s.par.tIdleMs).awaitDelay .hsLow)

/-- HANDSHAKE step 2 (R93): LOW, hold, on a `Delay` call of its own (log 3). -/
def execHandshake2 (s : State) : Host.Outcome State Fault Refusal :=
  if s.seq.holding then .next s
  else .next (((s.pinWrite .low).requestDelay s.par.tStartMs).awaitDelay .hsRel)

/-- HANDSHAKE step 3 (R94): input with pull-up; POLL starts at its beginning. -/
def execHandshake3 (s : State) : Host.Outcome State Fault Refusal :=
  .next (((s.pinMode .input .up).setSeq { s.seq with polling := false }).setPhase .poll)

/-- POLL before its loop (R95): the buffer is emptied and the first sample initialises `cur` (D8). -/
def pollFirst (s : State) : State :=
  ((s.afterPinRead.setRaw []).setWk { s.wk with cur := s.env.nextLevel, cnt := 0 }).setSeq { s.seq with polling := true }

/-- The end of POLL's loop (R95, R153). -/
def pollExit (s : State) : State :=
  { s with
    diag := { s.diag with lastLen := s.raw.length, cto := decide (s.raw.length = 0) }
    seq := { s.seq with polling := false }
    phase := .classify }

/-- A poll step whose sample equals `cur` (R96). -/
def pollSame (s : State) : State := s.afterPinRead.setWk { s.wk with cnt := s.wk.cnt + 1 }

/-- A poll step whose sample `l` differs from `cur`: an edge (R96). -/
def pollEdge (s : State) (l : Level) : State :=
  (s.afterPinRead.setRaw (s.raw.append s.wk.cnt)).setWk { s.wk with cur := l, cnt := 0 }

/-- POLL (R95): the first sample, or one poll step with the test of R97 made right after the increment (D9). -/
def execPoll (s : State) : Host.Outcome State Fault Refusal :=
  if s.seq.polling = false then .next (pollFirst s)
  else if s.env.nextLevel = s.wk.cur then
    if s.wk.cnt + 1 = s.cal.maxIterations then .next (pollExit (pollSame s)) else .next (pollSame s)
  else .next (pollEdge s s.env.nextLevel)

end Sys2Proof.Machine
end

