-- ==== Sys2Proof/Machine/Classify.lean ====
section
/-! DEFINITION. The Bit Classifier: CLASSIFY (42_classify.md R106 to R117). -/

namespace Sys2Proof.Machine

/-- The bits of a tail: the entries of the data subsequence against the sum of the marker subsequence (R111 to R113). -/
def classifyBits (t : Vector Nat 80) : Vector Bool 40 :=
  match selectSub (dispersion (subA t)) (dispersion (subB t)) with
  | .a => build fun j => bitOf (sumOf (subB t)) (subA t)[j]
  | .b => build fun j => bitOf (sumOf (subA t)) (subB t)[j]

/-- The threshold register after CLASSIFY: the sum of the marker subsequence (R111, R113). -/
def classifyThr (t : Vector Nat 80) : Nat :=
  match selectSub (dispersion (subA t)) (dispersion (subB t)) with
  | .a => sumOf (subB t)
  | .b => sumOf (subA t)

/-- The working registers after CLASSIFY of a tail (R106, R108 to R113). -/
def classifyWork (w : Work) (t : Vector Nat 80) : Work :=
  { w with
    t := t
    sa := sumOf (subA t)
    sb := sumOf (subB t)
    qa := sumSqOf (subA t)
    qb := sumSqOf (subB t)
    va := dispersion (subA t)
    vb := dispersion (subB t)
    sel := selectSub (dispersion (subA t)) (dispersion (subB t))
    thr := classifyThr t
    bits := classifyBits t }

/-- CLASSIFY (R106): `n <- len(raw)`; InsufficientSamples when it is below 80, before any entry is read (R107); else the tail
is loaded and classified. -/
def execClassify (s : State) : Host.Outcome State Fault Refusal :=
  let s1 := s.setWk { s.wk with n := s.raw.length }
  if s.raw.length < Config.tailLen then .next (s1.raise (.insufficientSamples s.raw.length))
  else
    match s.raw.load (s.raw.length - 80) 80 with
    | none => .fault .rawReadOutOfRange
    | some t => .next ((s1.setWk (classifyWork s1.wk t)).setPhase .decode)

end Sys2Proof.Machine
end

