-- ==== Sys2Proof/Machine/Construct.lean ====
section
/-! DEFINITION. CONSTRUCT and CALIBRATE (40_calibrate.md R81 to R87). -/

namespace Sys2Proof.Machine

/-- CONSTRUCT up to its call of `CALIBRATE()` (R81). -/
def constructStart (pin : Nat) (cacheDisabled : Bool) (windowS : Nat) (s : State) : State :=
  { s with
    cfg := { pin := pin, cacheDisabled := cacheDisabled, windowS := BitVec.ofNat 32 windowS }
    pin := { s.pin with owned := true }
    rdg := { s.rdg with valid := false }
    diag := { s.diag with lastFault := 0, cto := false, info := none }
    seq := { s.seq with pending := some (.construct pin cacheDisabled windowS) }
    phase := .cal }

/-- CONSTRUCT after `CALIBRATE()` (R81): CALFAIL when the calibration failed, else DONE. `phase <- IDLE` has been written by
CALIBRATE's step (10_state.md R19; log 5). -/
def constructEnd (s : State) : State :=
  if s.diag.lastFault = 1 then s.finish .calfail else s.finish .done

/-- CONSTRUCT (R81). -/
def execConstruct (pin : Nat) (cacheDisabled : Bool) (windowS : Nat) (s : State) : Host.Outcome State Fault Refusal :=
  if s.resuming (.construct pin cacheDisabled windowS) then .next (constructEnd s)
  else if s.phase = .reset then .next (constructStart pin cacheDisabled windowS s)
  else .next s.refuse

/-- The state after CALIBRATE's measurement: a clock answer, `CAL_READS` discarded reads, a clock answer (R82, R83). -/
def measured (s : State) : State := (s.afterClock.discardReads s.par.calReads).afterClock

/-- The measured duration `T = t1 − t0` (R83). -/
def measuredDuration (s : State) : Nat := (measured s).env.now - s.afterClock.env.now

/-- CALIBRATE (R82): CalibrationFailure when `T = 0` or the bound is 0 (R85), else the bound is written and the phase is `IDLE`
(R84, 10_state.md R19). -/
def execCalibrate (s : State) : Host.Outcome State Fault Refusal :=
  let t := measuredDuration s
  if t = 0 then .next ((measured s).raise (.calibrationFailure t))
  else if loopBound s.par.calReads t = 0 then .next ((measured s).raise (.calibrationFailure t))
  else .next (((measured s).setCal { maxIterations := loopBound s.par.calReads t }).setPhase .idle)

end Sys2Proof.Machine
end

