-- ==== Sys2Proof/Machine/Frame.lean ====
section
/-! DEFINITION. The Frame Decoder: DECODE and COMMIT (43_decode.md R119 to R126). -/

namespace Sys2Proof.Machine

/-- The state after DECODE has packed the bytes and computed the checksum (R119). -/
def decoded (s : State) : State :=
  s.setWk { s.wk with bytes := packBytes s.wk.bits, sum := checksum (packBytes s.wk.bits) }

/-- DECODE (R119): ChecksumMismatch when the sum differs from `byte[4]` (R122). -/
def execDecode (s : State) : Host.Outcome State Fault Refusal :=
  if (decoded s).wk.sum = (decoded s).wk.bytes[4] then .next ((decoded s).setPhase .commit)
  else .next ((decoded s).raise (.checksumMismatch (decoded s).wk.bytes (decoded s).wk.sum))

/-- COMMIT (R123): one clock answer, then the four fields of `RDG` in one step (R51 b), `ok <- true`. -/
def execCommit (s : State) : Host.Outcome State Fault Refusal :=
  .next
    (((s.afterClock.setRdg
        { valid := true
          hum10 := humidityOf s.wk.bytes
          temp10 := temperatureOf s.wk.bytes
          ts := s.env.nextClock }).setWk { s.wk with ok := true }).setPhase .idle)

end Sys2Proof.Machine
end

