-- ==== Sys2Proof/Machine/Dispatch.lean ====
section
/-! DEFINITION. One arm per instruction. -/

namespace Sys2Proof.Machine

/-- What performing an instruction does. Which instruction is performed when is the sequencer's (Sequencer.lean); a stage
micro-operation does its work whatever the phase it is performed in (log 15). -/
def exec (i : Instr) (s : State) : Host.Outcome State Fault Refusal :=
  match i with
  | .construct pin cacheDisabled windowS => Sys2Proof.Machine.execConstruct pin cacheDisabled windowS s
  | .tempc => Sys2Proof.Machine.execTempc s
  | .tempf => Sys2Proof.Machine.execTempf s
  | .humid => Sys2Proof.Machine.execHumid s
  | .since => Sys2Proof.Machine.execSince s
  | .force => Sys2Proof.Machine.execForce s
  | .close => Sys2Proof.Machine.execClose s
  | .calibrate => Sys2Proof.Machine.execCalibrate s
  | .handshake1 => Sys2Proof.Machine.execHandshake1 s
  | .handshake2 => Sys2Proof.Machine.execHandshake2 s
  | .handshake3 => Sys2Proof.Machine.execHandshake3 s
  | .poll => Sys2Proof.Machine.execPoll s
  | .classify => Sys2Proof.Machine.execClassify s
  | .decode => Sys2Proof.Machine.execDecode s
  | .commit => Sys2Proof.Machine.execCommit s

end Sys2Proof.Machine
end

