-- ==== Sys2Proof/Machine/Sequencer.lean ====
section
/-! DEFINITION. What the block performs next (10_state.md R18, R19; 30_encoding.md R71, R75; 44_cache_ops.md R131): the stage
its phase selects; else the host operation in progress; else the next host operation at the port. -/

namespace Sys2Proof.Machine

/-- What a step performs. -/
inductive Fetched where
  /-- The instruction, in the state it is performed in. -/
  | run (i : Instr) (s : State)
  /-- A command with a reserved operation code has been taken from the port (R73 a). -/
  | reserved (s : State)
  /-- The phase rests, no operation is in progress and the host issues none. -/
  | quiet
deriving DecidableEq, Repr

/-- The host has issued its next operation. -/
def State.takeCmd (s : State) : State := { s with port := { s.port with cmds := s.port.cmds.tail } }

/-- What the block performs in `s`. A stage comes first: between the acceptance of a host operation and its response nothing
is taken from the port (R131). -/
def fetch (s : State) : Fetched :=
  match decodeStage s.phase.code with
  | .instr i => .run i s
  | _ =>
    match s.seq.pending with
    | some i => .run i s
    | none =>
      match s.port.cmds with
      | [] => .quiet
      | c :: _ =>
        match decodeHostCmd c with
        | .instr i => .run i s.takeCmd
        | _ => .reserved s.takeCmd

/-- The reset input: whether hardware reset lands before this step (R176: "in any phase, including in the middle of a read
cycle"; log 7). -/
def Env.resetNow (e : Env) : Bool :=
  match e.resets with
  | 0 :: _ => true
  | _ => false

/-- One machine step nearer to the next hardware reset, past it when it is now. -/
def Env.tick (e : Env) : Env :=
  match e.resets with
  | [] => e
  | 0 :: rest => { e with resets := rest }
  | (k + 1) :: rest => { e with resets := k :: rest }

/-- The state in which a step looks at what to perform: the reset input counted. -/
def State.ticked (s : State) : State := s.setEnv s.env.tick

/-- `s` with a command at the head of the port, in a state where the port is looked at: no reset due, no operation in progress, a resting
phase (kept where it is one, `IDLE` else). -/
def State.issue (s : State) (c : HostCmd) : State :=
  { s with
    phase :=
      match decodeStage s.phase.code with
      | .instr _ => .idle
      | _ => s.phase
    seq := { s.seq with pending := none }
    port := { s.port with cmds := c :: s.port.cmds }
    env := { s.env with resets := [] } }

/-- `s` with a row's word where the block looks for it: a host operation at the port; a stage in the phase register (a code that
is no host operation's); any other word at the port, where it is refused as reserved (log 10). -/
def State.placeWord (s : State) (nbits w : Nat) : State :=
  let v := w % 2 ^ nbits
  match decodeWord .hostCmd v with
  | .instr _ => s.issue (HostCmd.ofWord v)
  | _ =>
    match decodeWord .stage v, Phase.ofCode (BitVec.ofNat 4 v) with
    | .instr _, some p => { s with phase := p, env := { s.env with resets := [] } }
    | _, _ => s.issue (HostCmd.ofWord v)

end Sys2Proof.Machine
end

