-- ==== Sys2Proof/Machine/Step.lean ====
section
/-! DEFINITION. One step of the machine: hardware reset when it lands, else what the block performs next. -/

namespace Sys2Proof.Machine

/-- Performing what has been fetched: an instruction, the refusal of a reserved code (30_encoding.md R73 a), or nothing. -/
def perform (s : State) : Host.Outcome State Fault Refusal :=
  match fetch s with
  | .run i t => exec i t
  | .reserved t => .next t.refuse
  | .quiet => .next s

/-- One step (10_state.md R19): hardware reset when the reset input says so, else `perform`. -/
def step (s : State) : Host.Outcome State Fault Refusal :=
  if s.env.resetNow then .next s.ticked.hardwareReset else perform s.ticked

/-- `s` with one row's word where `step` finds its next instruction. -/
def State.withFetchWord (s : State) (nbits w : Nat) : State := s.placeWord nbits w

end Sys2Proof.Machine
end

