-- ==== Sys2Proof/Safety.lean ====
section
/-! DEFINITION. The terms the claims are stated in: runs of several steps, the invariant of the machine, the phase transitions of
10_state.md R19, and the sample streams and tails of 95_test_vectors.md. -/

namespace Sys2Proof

/-- The host operations that run a read cycle (R76). -/
def Instr.runsCycle (i : Instr) : Bool :=
  i == .tempc || i == .tempf || i == .humid || i == .since || i == .force

/-- CONSTRUCT with some operands. -/
def Instr.isConstruct (i : Instr) : Bool :=
  match i with
  | .construct _ _ _ => true
  | _ => false

end Sys2Proof

namespace Sys2Proof.Machine

/-- `k` steps, stopping at the first fault or refusal. -/
def stepN : Nat → State → Host.Outcome State Fault Refusal
  | 0, s => .next s
  | k + 1, s =>
    match step s with
    | .next t => stepN k t
    | .fault r => .fault r
    | .refused r => .refused r

/-- The phases of a read cycle (R19, R133). -/
def Phase.inCycle : Phase → Bool
  | .hsHigh => true
  | .hsLow => true
  | .hsRel => true
  | .poll => true
  | .classify => true
  | .decode => true
  | .commit => true
  | .reset => false
  | .cal => false
  | .dead => false
  | .idle => false
  | .closed => false

/-- The phase transitions of R19, "stay" included; hardware reset, possible in any phase, apart. A hold that has not ended stays
(R165). -/
def Phase.mayFollow : Phase → Phase → Bool
  | .reset, q => q == .reset || q == .cal
  | .cal, q => q == .idle || q == .dead
  | .dead, q => q == .dead || q == .closed
  | .idle, q => q == .idle || q == .hsHigh || q == .closed
  | .hsHigh, q => q == .hsHigh || q == .hsLow
  | .hsLow, q => q == .hsLow || q == .hsRel
  | .hsRel, q => q == .poll
  | .poll, q => q == .poll || q == .classify
  | .classify, q => q == .decode || q == .idle
  | .decode, q => q == .commit || q == .idle
  | .commit, q => q == .idle
  | .closed, q => q == .closed

/-- The invariant of the machine: what holds of every state a run reaches. -/
structure State.Inv (s : State) : Prop where
  /-- The Calibrator times at least one read (R8, D6). -/
  calReads : 1 ≤ s.par.calReads
  /-- A constructed instance has a positive loop bound (R22). -/
  bound : s.phase = .idle ∨ s.phase.inCycle = true → 1 ≤ s.cal.maxIterations
  /-- The pin is owned from CONSTRUCT to CLOSE or reset (R26, R29). -/
  owned : s.pin.owned = true ↔ s.phase ≠ .reset ∧ s.phase ≠ .closed
  /-- A valid Reading exists only in a constructed instance (R20, R29). -/
  valid : s.rdg.valid = true → s.phase = .idle ∨ s.phase.inCycle = true
  /-- A Reading's timestamp is a past clock answer (R126, R164). -/
  stamp : s.rdg.valid = true → s.rdg.ts ≤ s.env.now
  /-- The values of a Reading are in the ranges of R23. -/
  range : s.rdg.valid = true → s.rdg.hum10.toNat ≤ 2805 ∧ s.rdg.temp10.toNat ≤ 2805
  /-- CALIBRATE runs inside CONSTRUCT only (R75, R76). -/
  inCal : s.phase = .cal → ∃ i, s.seq.pending = some i ∧ i.isConstruct = true
  /-- A stage of a read cycle runs inside an accessor or FORCE only (R75, R76). -/
  inOp : s.phase.inCycle = true → ∃ i, s.seq.pending = some i ∧ i.runsCycle = true
  /-- An operation in progress in `IDLE` is at its return from CALIBRATE or from its cycle. -/
  inIdle : ∀ i, s.phase = .idle → s.seq.pending = some i → i.isConstruct = true ∨ i.runsCycle = true
  /-- In `DEAD` only CONSTRUCT can be in progress, on its way to CALFAIL (R157). -/
  inDead : ∀ i, s.phase = .dead → s.seq.pending = some i → i.isConstruct = true
  /-- No operation is in progress before CONSTRUCT and after CLOSE. -/
  atRest : s.phase = .reset ∨ s.phase = .closed → s.seq.pending = none
  /-- A hold is in progress only in the two phases that hold, with the line driven as the step says (R92, R93). -/
  hold : s.seq.holding = true →
    (s.phase = .hsHigh ∧ s.pin.dir = some .output ∧ s.pin.pull = some .none ∧ s.pin.out = some .high) ∨
      (s.phase = .hsLow ∧ s.pin.dir = some .output ∧ s.pin.pull = some .none ∧ s.pin.out = some .low)
  /-- The loop of POLL runs only in `POLL`. -/
  loop : s.seq.polling = true → s.phase = .poll
  /-- Step 2 starts with the pin an output (R93). -/
  low : s.phase = .hsLow → s.pin.dir = some .output ∧ s.pin.pull = some .none
  /-- Step 3 starts with the line driven LOW (R94). -/
  rel : s.phase = .hsRel → s.pin.dir = some .output ∧ s.pin.pull = some .none ∧ s.pin.out = some .low
  /-- From step 3 to the end of the cycle the pin is an input with pull-up (R94, R103). -/
  released : s.phase = .poll ∨ s.phase = .classify ∨ s.phase = .decode ∨ s.phase = .commit →
    s.pin.dir = some .input ∧ s.pin.pull = some .up ∧ s.pin.out = some .low
  /-- Inside POLL's loop the counter and every entry are below the bound (R16, R44). -/
  counting : s.seq.polling = true → s.wk.cnt < s.cal.maxIterations ∧ s.raw.wf s.cal.maxIterations = true
  /-- POLL ends with the counter at the bound, every entry below it, and DIAG describing the capture (R44, R95, R153). -/
  captured : s.phase = .classify →
    s.wk.cnt = s.cal.maxIterations ∧ s.raw.wf s.cal.maxIterations = true ∧ s.diag.lastLen = s.raw.length ∧
      s.diag.cto = decide (s.raw.length = 0)
  /-- COMMIT is reached only with an accepted frame (R122, R123). -/
  accepted : s.phase = .commit → s.wk.sum = s.wk.bytes[4] ∧ s.wk.sum = checksum s.wk.bytes
  /-- No fault has been raised in a cycle that still runs, and it has not succeeded yet (R133). -/
  running : s.phase.inCycle = true → s.wk.ok = false ∧ s.diag.lastFault = 0
  /-- At the return from a cycle, `ok` says that no fault was raised (R133, R156). -/
  outcome : ∀ i, s.phase = .idle → s.seq.pending = some i → i.runsCycle = true →
    (s.wk.ok = true ↔ s.diag.lastFault = 0)
  /-- `DEAD` is the phase of a failed calibration (R157). -/
  failed : s.phase = .dead → s.diag.lastFault = 1

/-- The samples of a line that holds alternating levels, the first `l`, a run `r` of the list for `r + 1` samples
(95_test_vectors.md, conventions). -/
def samplesOf : Level → List Nat → List Level
  | _, [] => []
  | l, r :: rs => List.replicate (r + 1) l ++ samplesOf l.other rs

/-- The level after as many changes as the list has entries. -/
def levelAfter : Level → List Nat → Level
  | l, [] => l
  | l, _ :: rs => levelAfter l.other rs

/-- The number of `PinRead()` calls of a capture that records `runs` (41_capture.md, section 3). -/
def captureReads (maxIterations : Nat) (runs : List Nat) : Nat := runs.length + runs.sum + maxIterations + 1

/-- A tail: for each bit in order the pair marker, data run; the data run is `long` for 1 and `short` for 0 (R61, R65). -/
def pairTail (marker short long : Nat) (bits : Vector Bool 40) : List Nat :=
  (bits.toList.map fun b => [marker, if b then long else short]).flatten

/-- The frame of `bits` passes the checksum (R121, R122). -/
def acceptedBits (bits : Vector Bool 40) : Bool := checksum (packBytes bits) == (packBytes bits)[4]

end Sys2Proof.Machine
end

