-- ==== Sys2Proof/Certificates/Slice0/Obligations.lean ====
section
/-! DEFINITION. The statements for the provers. Rules R<n> are those of spec/. A statement that rests on a decision of the spec
(D<n> of 92_eei_decisions.md) or of the model (notes/assumptions, log n) says so. -/

open Sys2Proof Sys2Proof.Machine

/-! ### Encoding -/

/-- Decoding the encoding of a well-formed instruction gives it back (R69 to R71). The places of CONSTRUCT's operands in a word
are the model's choice (log 10). -/
def Obligations.DecodeOfEncodeIsIdentity : Prop :=
  ∀ i : Instr, i.wellFormed = true → decodeWord (encode i).1 (encode i).2 = .instr i

/-- Whatever the word, what a decoder gives is well formed: no decoded operand falls outside its field (R21, R69; log 10). -/
def Obligations.DecodedInstructionsAreWellFormed : Prop :=
  ∀ (f : Format) (w : Nat) (i : Instr), decodeWord f w = .instr i → i.wellFormed = true

/-- Words written out from the code tables of R70 and R18. CONSTRUCT's word is pin 4, caching enabled, window 2 in the model's
layout (log 10). -/
def Obligations.TableWordsDecode : Prop :=
  decodeWord .hostCmd (0b0000 + 2 ^ 5 * 2 + 2 ^ 37 * 4) = .instr (.construct 4 false 2) ∧
    decodeWord .hostCmd 0b0001 = .instr .tempc ∧
    decodeWord .hostCmd 0b0101 = .instr .force ∧
    decodeWord .stage 0b0001 = .instr .calibrate ∧
    decodeWord .stage 0b0100 = .instr .handshake1 ∧
    decodeWord .stage 0b0111 = .instr .poll ∧
    decodeWord .stage 0b1000 = .instr .classify ∧
    decodeWord .stage 0b1010 = .instr .commit

/-- Operation codes 7 to 15, and no others, are reserved (R73 a, decision D27). -/
def Obligations.ReservedOperationCodes : Prop :=
  ∀ c : HostCmd, decodeHostCmd c = .reservedOp c.op ↔ 7 ≤ c.op.toNat

/-- Each phase has its own code, and the code selects the stage R71 lists or none; codes 12 to 15 are no phase (R18, R71,
decision D21). -/
def Obligations.PhaseCodesSelectStages : Prop :=
  (∀ p : Phase, Phase.ofCode p.code = some p) ∧
    (∀ p : Phase, (decodeStage p.code).instr? =
      match p with
      | .cal => some .calibrate
      | .hsHigh => some .handshake1
      | .hsLow => some .handshake2
      | .hsRel => some .handshake3
      | .poll => some .poll
      | .classify => some .classify
      | .decode => some .decode
      | .commit => some .commit
      | .reset => none
      | .dead => none
      | .idle => none
      | .closed => none) ∧
    (∀ code : BitVec 4, 12 ≤ code.toNat → Phase.ofCode code = none ∧ decodeStage code = .unusedPhase code)

/-! ### The step -/

/-- Without a hardware reset, a step performs the stage the phase selects; in a resting phase the host operation in progress;
with none in progress the operation at the port, a reserved code being refused; and else nothing (R18, R71, R131). The order and
the reset input are the model's (logs 4, 7). -/
def Obligations.StepPerformsWhatIsSelected : Prop :=
  ∀ s : State, s.env.resetNow = false →
    (∀ i, decodeStage s.phase.code = .instr i → step s = exec i s.ticked) ∧
      (decodeStage s.phase.code = .restingPhase s.phase.code →
        (∀ i, s.seq.pending = some i → step s = exec i s.ticked) ∧
          (∀ c rest i, s.seq.pending = none → s.port.cmds = c :: rest → decodeHostCmd c = .instr i →
            step s = exec i { s.ticked with port := { cmds := rest, rsps := s.port.rsps } }) ∧
          (∀ c rest, s.seq.pending = none → s.port.cmds = c :: rest → decodeHostCmd c = .reservedOp c.op →
            step s = .next { s.ticked with port := { cmds := rest, rsps := s.port.rsps ++ [.refused] } }) ∧
          (s.seq.pending = none → s.port.cmds = [] → step s = .next s.ticked)) ∧
      (s.env.resets = [] → s.ticked = s) ∧
      (∀ k rest, s.env.resets = (k + 1) :: rest → s.ticked = { s with env := { s.env with resets := k :: rest } })

/-- A row's word placed with `withFetchWord` is what the very next step performs, whatever the state it is placed in; nothing of
the block's records, registers and buffer is touched by the placing (logs 6, 10). -/
def Obligations.PlacedWordIsPerformed : Prop :=
  ∀ (s : State) (w : Nat) (i : Instr), decodeTableWord 8 w = some i →
    ∃ t : State, step (s.withFetchWord 8 w) = exec i t ∧ t.wk = s.wk ∧ t.cfg = s.cfg ∧ t.cal = s.cal ∧ t.rdg = s.rdg ∧
      t.diag = s.diag ∧ t.pin = s.pin ∧ t.raw = s.raw ∧ t.par = s.par ∧ t.port.rsps = s.port.rsps

/-- No step stops: every instruction in every state, and every step, ends in a next state. The spec's faults are taken and its
refusals are responses (R73, R156, R157, R169). -/
def Obligations.NothingStops : Prop :=
  (∀ (i : Instr) (s : State), ∃ t, exec i s = .next t) ∧ ∀ s : State, ∃ t, step s = .next t

/-- Hardware reset in any phase (R176, decision D25): the five values it sets; no pin call, the pin left as it was driven (R178,
D29); the operation in progress is gone without a response (R178). -/
def Obligations.HardwareResetFromAnyState : Prop :=
  ∀ (s : State) (rest : List Nat), s.env.resets = 0 :: rest →
    ∃ t : State, step s = .next t ∧ t.phase = .reset ∧ t.rdg.valid = false ∧ t.pin = { s.pin with owned := false } ∧
      t.diag.lastFault = 0 ∧ t.diag.cto = false ∧ t.seq.pending = none ∧ t.port = s.port ∧ t.par = s.par ∧
      t.env.calls = s.env.calls ∧ t.env.pinReads = s.env.pinReads ∧ t.env.resets = rest

/-- The state right after hardware reset holds the values the spec gives (R29, R176, decision D25). -/
def Obligations.ResetStateHoldsTheSpecifiedValues : Prop :=
  State.reset.phase = .reset ∧ State.reset.rdg.valid = false ∧ State.reset.pin.owned = false ∧
    State.reset.diag.lastFault = 0 ∧ State.reset.diag.cto = false ∧ State.reset.pin.dir = none ∧
    State.reset.pin.pull = none ∧ State.reset.pin.out = none ∧
    State.reset.par = { calReads := 10000, tIdleMs := 50, tStartMs := 20 }

/-- A host operation in a phase that does not accept it is refused: its only effect is the response REFUSED (R73 b, R131,
decision D27). -/
def Obligations.WrongPhaseIsRefused : Prop :=
  (∀ (p : Nat) (c : Bool) (w : Nat) (s : State), s.phase ≠ .reset → s.seq.pending ≠ some (.construct p c w) →
      exec (.construct p c w) s = .next { s with port := { s.port with rsps := s.port.rsps ++ [.refused] } }) ∧
    (∀ (i : Instr) (s : State), i.runsCycle = true → s.phase ≠ .idle → s.seq.pending ≠ some i →
      exec i s = .next { s with port := { s.port with rsps := s.port.rsps ++ [.refused] } }) ∧
    (∀ s : State, s.phase ≠ .idle → s.phase ≠ .dead →
      exec .close s = .next { s with port := { s.port with rsps := s.port.rsps ++ [.refused] } })

/-! ### CONSTRUCT and CALIBRATE -/

/-- CONSTRUCT in `RESET` writes CFG, owns the pin, leaves no valid Reading, clears DIAG and goes to CALIBRATE; nothing else
changes (R81, decision D20). -/
def Obligations.ConstructConfiguresTheInstance : Prop :=
  ∀ (p : Nat) (c : Bool) (w : Nat) (s : State), s.phase = .reset → s.seq.pending ≠ some (.construct p c w) → w < 2 ^ 32 →
    ∃ t : State, exec (.construct p c w) s = .next t ∧ t.cfg.pin = p ∧ t.cfg.cacheDisabled = c ∧ t.cfg.windowS.toNat = w ∧
      t = { s with
        cfg := t.cfg
        pin := { s.pin with owned := true }
        rdg := { s.rdg with valid := false }
        diag := { s.diag with lastFault := 0, cto := false, info := none }
        seq := { s.seq with pending := some (.construct p c w) }
        phase := .cal }

/-- CONSTRUCT at the port of a block in `RESET` takes three steps to its response (R81, R157, decision D20): `T` is how far the
clock moves over the `CAL_READS` reads; with `0 < T ≤ INTERVAL_NS · CAL_READS` the answer is DONE in `IDLE` with the bound
`floor(INTERVAL_NS · CAL_READS / T)`, and else CALFAIL in `DEAD` with CAL not written. The number of steps is the model's
(log 4). -/
def Obligations.ConstructRunsToItsResponse : Prop :=
  ∀ (s : State) (c : HostCmd) (rest : List HostCmd), s.phase = .reset → s.seq.pending = none → s.env.resets = [] →
    s.port.cmds = c :: rest → c.op = 0 →
    ∃ t : State, stepN 3 s = .next t ∧ t.cfg = { pin := c.pin, cacheDisabled := c.cacheDisabled, windowS := c.windowS } ∧
      t.pin = { s.pin with owned := true } ∧ t.rdg.valid = false ∧ t.seq.pending = none ∧ t.port.cmds = rest ∧
      (let T := (s.afterClock.discardReads s.par.calReads).env.nextAdvance
       (0 < T ∧ T ≤ 150000 * s.par.calReads ∧ t.phase = .idle ∧ t.port.rsps = s.port.rsps ++ [.done] ∧
          t.diag.lastFault = 0 ∧ t.cal.maxIterations = 150000 * s.par.calReads / T) ∨
        ((T = 0 ∨ 150000 * s.par.calReads < T) ∧ t.phase = .dead ∧ t.port.rsps = s.port.rsps ++ [.calfail] ∧
          t.diag.lastFault = 1 ∧ t.cal = s.cal))

/-- CONSTRUCT back from CALIBRATE: CALFAIL when DIAG holds CalibrationFailure, else DONE; the response is its only effect on the
block, the phase being IDLE or DEAD already (R81, decision D20). The return as an execution of its own is log 4; that R81's
`phase <- IDLE` is written before it, in CALIBRATE's step, is log 5 (DEDUCED from R19's table). -/
def Obligations.ConstructReportsTheCalibration : Prop :=
  ∀ (p : Nat) (c : Bool) (w : Nat) (s : State), s.seq.pending = some (.construct p c w) →
    exec (.construct p c w) s =
      .next { s with
        seq := { s.seq with pending := none }
        port := { s.port with rsps := s.port.rsps ++ [if s.diag.lastFault = 1 then .calfail else .done] } }

/-- A successful CALIBRATE writes the exact floor of `INTERVAL_NS · CAL_READS / T` (R84, decision D5), a positive number, and
changes nothing else but the phase and what its reads and clock answers consume (R82, R87). That the phase is `IDLE` at the end
of CALIBRATE itself is log 5 (DEDUCED from the table of R19, against the place of the write in R81's pseudocode). -/
def Obligations.CalibrateWritesTheFloor : Prop :=
  ∀ (s : State) (T : Nat), T = (s.afterClock.discardReads s.par.calReads).env.nextAdvance → 0 < T →
    T ≤ 150000 * s.par.calReads →
    ∃ t : State, exec .calibrate s = .next t ∧ 1 ≤ t.cal.maxIterations ∧
      t.cal.maxIterations * T ≤ 150000 * s.par.calReads ∧ 150000 * s.par.calReads < (t.cal.maxIterations + 1) * T ∧
      t.env.pinReads = s.env.pinReads + s.par.calReads ∧ t.env.levels = s.env.levels.drop s.par.calReads ∧
      t.env.clockReads = s.env.clockReads + 2 ∧ t.env.calls = s.env.calls ∧
      t = { s with phase := .idle, cal := t.cal, env := t.env }

/-- CalibrationFailure is raised exactly when the clock did not advance over the reads or advanced by more than
`INTERVAL_NS · CAL_READS`; the fault goes to `DEAD`, is recorded, and leaves CAL unwritten (R85, R157). -/
def Obligations.CalibrationFailureExactly : Prop :=
  ∀ (s : State) (T : Nat), T = (s.afterClock.discardReads s.par.calReads).env.nextAdvance →
    ∃ t : State, exec .calibrate s = .next t ∧ (t.phase = .dead ↔ T = 0 ∨ 150000 * s.par.calReads < T) ∧
      (t.phase = .dead →
        t = { s with
          phase := .dead
          diag := { s.diag with lastFault := 1, info := some (.calibrationFailure T) }
          env := t.env })

/-- CALIBRATE runs once between two hardware resets: only CALIBRATE writes CAL, it does not end in its own phase, that phase is
entered from `RESET` only, and no instruction goes to `RESET` (R86). That CALIBRATE itself leaves its phase, to `IDLE` or `DEAD`,
is R19's table and log 5 (DEDUCED). -/
def Obligations.CalibratesOncePerReset : Prop :=
  ∀ (i : Instr) (s t : State), exec i s = .next t →
    (i ≠ .calibrate → t.cal = s.cal) ∧ (i = .calibrate → t.phase ≠ .cal) ∧
      (t.phase = .cal → s.phase = .cal ∨ s.phase = .reset ∧ i.isConstruct = true) ∧
      (t.phase = .reset → s.phase = .reset)

/-! ### HANDSHAKE -/

/-- The three steps of the handshake where the `Delay` returns, each with its calls, its pin state, its phase and nothing else
(R92 to R94, decisions D11, D12; the answer a `Delay` call consumes is log 3). -/
def Obligations.HandshakeStepsDriveThePin : Prop :=
  ∀ s : State, s.env.nextDelayReturns = true → s.seq.holding = false →
    exec .handshake1 s =
        .next { s with
          phase := .hsLow
          pin := { s.pin with dir := some .output, pull := some .none, out := some .high }
          env := { s.env with
            delays := s.env.delays.tail
            calls := s.env.calls ++
              [.setMode s.cfg.pin .output .none, .write s.cfg.pin .high, .delay s.par.tIdleMs] } } ∧
      exec .handshake2 s =
        .next { s with
          phase := .hsRel
          pin := { s.pin with out := some .low }
          env := { s.env with
            delays := s.env.delays.tail
            calls := s.env.calls ++ [.write s.cfg.pin .low, .delay s.par.tStartMs] } } ∧
      exec .handshake3 s =
        .next { s with
          phase := .poll
          pin := { s.pin with dir := some .input, pull := some .up }
          seq := { s.seq with polling := false }
          env := { s.env with calls := s.env.calls ++ [.setMode s.cfg.pin .input .up] } }

/-- HANDSHAKE issues exactly these calls in exactly this order, no `PinRead` and no clock read, and ends in `POLL` with the pin
an input pulled up (R91), where its two `Delay` calls return (R165; their answers are log 3). -/
def Obligations.HandshakeCallsInOrder : Prop :=
  ∀ s : State, s.phase = .hsHigh → s.seq.holding = false → (∀ b ∈ s.env.delays.take 2, b = true) → s.env.resets = [] →
    ∃ t : State, stepN 3 s = .next t ∧
      t.env = { s.env with
        delays := s.env.delays.drop 2
        calls := s.env.calls ++
          [.setMode s.cfg.pin .output .none, .write s.cfg.pin .high, .delay s.par.tIdleMs, .write s.cfg.pin .low,
            .delay s.par.tStartMs, .setMode s.cfg.pin .input .up] } ∧
      t.pin = { s.pin with dir := some .input, pull := some .up, out := some .low } ∧
      t = { s with phase := .poll, pin := t.pin, seq := { s.seq with polling := false }, env := t.env }

/-- A `Delay` that never returns hangs the cycle (R165; U15 of 93_implementation_defined.md), for the hold of step 1, for that of
step 2, and for a run in which the first returns and the second does not: however many steps follow, the phase stays, the calls
so far have been made once, no response is given, and nothing else changes. The number of steps and the answers of the `Delay`
calls are the model's (logs 3, 4). -/
def Obligations.UnreturnedDelayHangs : Prop :=
  ∀ (s : State) (k : Nat), s.seq.holding = false → s.env.resets = [] →
    (s.phase = .hsHigh → s.env.nextDelayReturns = false →
      stepN (k + 1) s =
        .next { s with
          pin := { s.pin with dir := some .output, pull := some .none, out := some .high }
          seq := { s.seq with holding := true }
          env := { s.env with
            delays := s.env.delays.tail
            calls := s.env.calls ++
              [.setMode s.cfg.pin .output .none, .write s.cfg.pin .high, .delay s.par.tIdleMs] } }) ∧
      (s.phase = .hsLow → s.env.nextDelayReturns = false →
        stepN (k + 1) s =
          .next { s with
            pin := { s.pin with out := some .low }
            seq := { s.seq with holding := true }
            env := { s.env with
              delays := s.env.delays.tail
              calls := s.env.calls ++ [.write s.cfg.pin .low, .delay s.par.tStartMs] } }) ∧
      (∀ rest, s.phase = .hsHigh → s.env.delays = true :: false :: rest →
        stepN (k + 2) s =
          .next { s with
            phase := .hsLow
            pin := { s.pin with dir := some .output, pull := some .none, out := some .low }
            seq := { s.seq with holding := true }
            env := { s.env with
              delays := rest
              calls := s.env.calls ++
                [.setMode s.cfg.pin .output .none, .write s.cfg.pin .high, .delay s.par.tIdleMs, .write s.cfg.pin .low,
                  .delay s.par.tStartMs] } })

/-! ### POLL -/

/-- The first sample of POLL: the buffer is emptied, `cur` takes the sample, `cnt` is 0, nothing is appended (R95, decision
D8). -/
def Obligations.PollFirstSampleInitialises : Prop :=
  ∀ s : State, s.seq.polling = false →
    exec .poll s =
      .next { s with
        raw := []
        wk := { s.wk with cur := s.env.nextLevel, cnt := 0 }
        seq := { s.seq with polling := true }
        env := { s.env with levels := s.env.levels.tail, pinReads := s.env.pinReads + 1 } }

/-- One poll step (R96), with its exit in the step that makes `cnt` the bound (R97, decision D9; R95's end of the loop). -/
def Obligations.PollStepCountsOrAppends : Prop :=
  ∀ s : State, s.seq.polling = true →
    (s.env.nextLevel = s.wk.cur → s.wk.cnt + 1 ≠ s.cal.maxIterations →
        exec .poll s =
          .next { s with
            wk := { s.wk with cnt := s.wk.cnt + 1 }
            env := { s.env with levels := s.env.levels.tail, pinReads := s.env.pinReads + 1 } }) ∧
      (s.env.nextLevel = s.wk.cur → s.wk.cnt + 1 = s.cal.maxIterations →
        exec .poll s =
          .next { s with
            phase := .classify
            wk := { s.wk with cnt := s.cal.maxIterations }
            diag := { s.diag with lastLen := s.raw.length, cto := decide (s.raw.length = 0) }
            seq := { s.seq with polling := false }
            env := { s.env with levels := s.env.levels.tail, pinReads := s.env.pinReads + 1 } }) ∧
      (s.env.nextLevel ≠ s.wk.cur →
        exec .poll s =
          .next { s with
            raw := s.raw ++ [s.wk.cnt]
            wk := { s.wk with cur := s.env.nextLevel, cnt := 0 }
            env := { s.env with levels := s.env.levels.tail, pinReads := s.env.pinReads + 1 } })

/-- A capture records the runs of the line (R98, R99 and the counting identities of 41_capture.md section 3, which the spec derives;
first sample by D8): on any line whose runs before the trailing one have at most `max_iterations` samples, POLL ends with `raw`
the list of their lengths less one, the trailing run not stored, after exactly the reads the identities count. -/
def Obligations.CaptureRecordsTheRuns : Prop :=
  ∀ (s : State) (l : Level) (runs : List Nat) (rest : List Level), s.phase = .poll → s.seq.polling = false →
    s.env.resets = [] → 1 ≤ s.cal.maxIterations → (∀ r ∈ runs, r < s.cal.maxIterations) →
    s.env.levels = samplesOf l (runs ++ [s.cal.maxIterations]) ++ rest →
    ∃ t : State, stepN (captureReads s.cal.maxIterations runs) s = .next t ∧ t.phase = .classify ∧ t.raw = runs ∧
      t.wk = { s.wk with cur := levelAfter l runs, cnt := s.cal.maxIterations } ∧
      t.diag = { s.diag with lastLen := runs.length, cto := decide (runs.length = 0) } ∧
      t.env = { s.env with
        levels := rest, pinReads := s.env.pinReads + captureReads s.cal.maxIterations runs } ∧
      t = { s with phase := t.phase, raw := t.raw, wk := t.wk, diag := t.diag, env := t.env }

/-- A device that never or hardly responds (R100): a line with fewer than 80 changes before it holds ends POLL normally with that
many entries, and CLASSIFY raises InsufficientSamples; the Reading and the pin are untouched, and an empty capture leaves the
CaptureTimeout mark (R153). -/
def Obligations.ShortCaptureIsInsufficient : Prop :=
  ∀ (s : State) (l : Level) (runs : List Nat) (rest : List Level), s.phase = .poll → s.seq.polling = false →
    s.env.resets = [] → 1 ≤ s.cal.maxIterations → (∀ r ∈ runs, r < s.cal.maxIterations) → runs.length < 80 →
    s.env.levels = samplesOf l (runs ++ [s.cal.maxIterations]) ++ rest →
    (∃ u : State, stepN (captureReads s.cal.maxIterations runs) s = .next u ∧ u.phase = .classify ∧
      u.raw.length = runs.length ∧ u.env.pinReads = s.env.pinReads + captureReads s.cal.maxIterations runs ∧
      (runs = [] → u.env.pinReads = s.env.pinReads + (s.cal.maxIterations + 1))) ∧
    ∃ t : State, stepN (captureReads s.cal.maxIterations runs + 1) s = .next t ∧ t.phase = .idle ∧ t.diag.lastFault = 3 ∧
      t.diag.lastLen = runs.length ∧ t.diag.cto = decide (runs.length = 0) ∧ t.wk.ok = false ∧ t.rdg = s.rdg ∧
      t.pin = s.pin ∧ t.cfg = s.cfg ∧ t.cal = s.cal ∧ t.port = s.port

/-- The hang (R101): as long as the answers hold no `max_iterations + 1` consecutive equal samples, POLL does not end, no response
is given, and the buffer grows with the number of reads. -/
def Obligations.UnsettledLineNeverEndsPoll : Prop :=
  ∀ (s : State) (k : Nat), s.phase = .poll → s.seq.polling = false → s.env.resets = [] → 1 ≤ s.cal.maxIterations →
    k ≤ s.env.levels.length →
    (∀ i, i + s.cal.maxIterations < k → ∃ j, j ≤ s.cal.maxIterations ∧ s.env.levels[i + j]? ≠ s.env.levels[i]?) →
    ∃ t : State, stepN k s = .next t ∧ t.phase = .poll ∧ t.port = s.port ∧ t.rdg = s.rdg ∧
      t.env.pinReads = s.env.pinReads + k ∧ k ≤ (t.raw.length + 1) * s.cal.maxIterations

/-! ### CLASSIFY -/

/-- CLASSIFY raises InsufficientSamples exactly on a RawSignal shorter than 80 entries, the empty one included, before it reads an
entry or writes a bit; the Reading is untouched and the fault is not fatal (R107, R154; entry R156). -/
def Obligations.ShortRawRaisesInsufficientSamples : Prop :=
  ∀ s : State,
    (s.raw.length < 80 →
      exec .classify s =
        .next { s with
          phase := .idle
          wk := { s.wk with n := s.raw.length, ok := false }
          diag := { s.diag with lastFault := 3, info := some (.insufficientSamples s.raw.length) } }) ∧
      (80 ≤ s.raw.length → ∃ t : State, exec .classify s = .next t ∧ t.phase = .decode ∧ t.diag = s.diag)

/-- CLASSIFY of 80 entries or more (R106, R108, R109): `t` is the last 80 entries; the sums, the sums of squares, the dispersion
`V = 40 Q − S²` as an exact equation; the data subsequence, the tie going to `B`; the threshold and the 40 bits. Nothing else
changes. -/
def Obligations.ClassifyComputesItsRegisters : Prop :=
  ∀ s : State, 80 ≤ s.raw.length →
    ∃ t : State, exec .classify s = .next t ∧ t.wk.n = s.raw.length ∧
      (∀ (k : Nat) (h : k < 80), s.raw.read (s.raw.length - 80 + k) = some t.wk.t[k]) ∧
      t.wk.sa = ∑ j : Fin 40, t.wk.t[2 * j.val] ∧ t.wk.qa = ∑ j : Fin 40, t.wk.t[2 * j.val] ^ 2 ∧
      t.wk.sb = ∑ j : Fin 40, t.wk.t[2 * j.val + 1] ∧ t.wk.qb = ∑ j : Fin 40, t.wk.t[2 * j.val + 1] ^ 2 ∧
      t.wk.va + t.wk.sa ^ 2 = 40 * t.wk.qa ∧ t.wk.vb + t.wk.sb ^ 2 = 40 * t.wk.qb ∧
      (t.wk.va > t.wk.vb → t.wk.sel = .a ∧ t.wk.thr = t.wk.sb ∧
        ∀ (j : Nat) (h : j < 40), t.wk.bits[j] = true ↔ 40 * t.wk.t[2 * j] > t.wk.thr) ∧
      (¬ t.wk.va > t.wk.vb → t.wk.sel = .b ∧ t.wk.thr = t.wk.sa ∧
        ∀ (j : Nat) (h : j < 40), t.wk.bits[j] = true ↔ 40 * t.wk.t[2 * j + 1] > t.wk.thr) ∧
      t = { s with
        phase := .decode
        wk := { s.wk with
          n := t.wk.n, t := t.wk.t, sa := t.wk.sa, sb := t.wk.sb, qa := t.wk.qa, qb := t.wk.qb, va := t.wk.va,
          vb := t.wk.vb, sel := t.wk.sel, thr := t.wk.thr, bits := t.wk.bits } }

/-- The bits depend only on the last 80 entries of `raw` (R115 a, which the spec derives). -/
def Obligations.PreambleIsIgnored : Prop :=
  ∀ s u : State, 80 ≤ s.raw.length → 80 ≤ u.raw.length →
    (∀ k, k < 80 → s.raw.read (s.raw.length - 80 + k) = u.raw.read (u.raw.length - 80 + k)) →
    ∃ s' u' : State, exec .classify s = .next s' ∧ exec .classify u = .next u' ∧ s'.wk.bits = u'.wk.bits

/-- A tail with the two roles swapped gives the same bits when the dispersions differ (R115 b, R65, which the spec derives). -/
def Obligations.SwappedRolesGiveTheSameBits : Prop :=
  ∀ t u : Vector Nat 80, (∀ (j : Nat) (h : j < 40), u[2 * j] = t[2 * j + 1] ∧ u[2 * j + 1] = t[2 * j]) →
    dispersion (subA t) ≠ dispersion (subB t) → classifyBits u = classifyBits t

/-- Adding a constant to all 80 entries, or multiplying them by a positive constant, leaves the bits unchanged (R115 c, which the
spec derives). -/
def Obligations.OffsetAndScaleLeaveTheBits : Prop :=
  ∀ (t u : Vector Nat 80) (c : Nat),
    ((∀ (k : Nat) (h : k < 80), u[k] = t[k] + c) → classifyBits u = classifyBits t) ∧
      (0 < c → (∀ (k : Nat) (h : k < 80), u[k] = c * t[k]) → classifyBits u = classifyBits t)

/-- With a constant marker `m` and data runs `short ≤ m < long`, both occurring, the data subsequence is found in either
alignment and the bits are exactly the long runs (R115 d, R50, which the spec derives). -/
def Obligations.TwoLevelTailIsReadExactly : Prop :=
  ∀ (t : Vector Nat 80) (m short long : Nat) (bits : Vector Bool 40), short ≤ m → m < long →
    (∃ (j : Nat) (h : j < 40), bits[j] = true) → (∃ (j : Nat) (h : j < 40), bits[j] = false) →
    ((∀ (j : Nat) (h : j < 40), t[2 * j] = m ∧ t[2 * j + 1] = if bits[j] then long else short) →
        selectSub (dispersion (subA t)) (dispersion (subB t)) = .b ∧ classifyBits t = bits) ∧
      ((∀ (j : Nat) (h : j < 40), t[2 * j + 1] = m ∧ t[2 * j] = if bits[j] then long else short) →
        selectSub (dispersion (subA t)) (dispersion (subB t)) = .a ∧ classifyBits t = bits)

/-- A tail of 80 equal entries is accepted as the all-zero frame: a valid Reading of 0.0 % and 0.0 °C (R116 b, which the spec
derives; the tie by D14). -/
def Obligations.FeaturelessTailIsAnAllZeroReading : Prop :=
  ∀ (s : State) (v : Nat), s.phase = .classify → s.env.resets = [] → 80 ≤ s.raw.length →
    (∀ k, k < 80 → s.raw.read (s.raw.length - 80 + k) = some v) →
    ∃ t : State, stepN 3 s = .next t ∧ t.phase = .idle ∧ t.wk.ok = true ∧
      t.rdg = { valid := true, hum10 := 0, temp10 := 0, ts := s.env.nextClock }

/-! ### DECODE and COMMIT -/

/-- Byte assembly, most significant bit first: as a sum and bit by bit (R63). -/
def Obligations.BytesArePackedMsbFirst : Prop :=
  ∀ (bits : Vector Bool 40) (i : Fin 5),
    (byteAt bits i).toNat = ∑ k : Fin 8, bits[8 * i.val + k.val].toNat * 2 ^ (7 - k.val) ∧
      ∀ k : Fin 8, (byteAt bits i).getLsbD (7 - k.val) = bits[8 * i.val + k.val]

/-- DECODE packs the bytes, takes the sum of the first four modulo 256, accepts when it is `byte[4]` and raises ChecksumMismatch
when it is not, and changes nothing else (R119, R121, R155; entry of the fault R156). -/
def Obligations.DecodePacksAndChecks : Prop :=
  ∀ s : State, ∃ t : State, exec .decode s = .next t ∧
    (∀ (i : Nat) (h : i < 5),
      t.wk.bytes[i].toNat = ∑ k : Fin 8, s.wk.bits[8 * i + k.val].toNat * 2 ^ (7 - k.val)) ∧
    t.wk.sum.toNat =
      (t.wk.bytes[0].toNat + t.wk.bytes[1].toNat + t.wk.bytes[2].toNat + t.wk.bytes[3].toNat) % 256 ∧
    (t.wk.sum = t.wk.bytes[4] →
      t = { s with phase := .commit, wk := { s.wk with bytes := t.wk.bytes, sum := t.wk.sum } }) ∧
    (t.wk.sum ≠ t.wk.bytes[4] →
      t = { s with
        phase := .idle
        wk := { s.wk with bytes := t.wk.bytes, sum := t.wk.sum, ok := false }
        diag := { s.diag with lastFault := 4, info := some (.checksumMismatch t.wk.bytes t.wk.sum) } })

/-- A single flipped bit of an accepted frame always gives a rejected frame (43_decode.md section 3, which the spec derives). -/
def Obligations.SingleBitErrorIsRejected : Prop :=
  ∀ (s u t : State) (j : Nat) (h : j < 40), exec .decode s = .next t → t.phase = .commit →
    u.wk.bits = s.wk.bits.set j (!s.wk.bits[j]) →
    ∃ t' : State, exec .decode u = .next t' ∧ t'.phase = .idle ∧ t'.diag.lastFault = 4 ∧ t'.rdg = u.rdg

/-- COMMIT writes the four fields of the Reading in one step, the values exact, the timestamp one clock answer; `ok` and the phase;
nothing else (R123). -/
def Obligations.CommitWritesTheReading : Prop :=
  ∀ s : State, ∃ t : State, exec .commit s = .next t ∧ t.rdg.valid = true ∧
    t.rdg.hum10.toNat = 10 * s.wk.bytes[0].toNat + s.wk.bytes[1].toNat ∧
    t.rdg.temp10.toNat = 10 * s.wk.bytes[2].toNat + s.wk.bytes[3].toNat ∧ t.rdg.ts = s.env.now + s.env.nextAdvance ∧
    t = { s with
      phase := .idle
      rdg := t.rdg
      wk := { s.wk with ok := true }
      env := { s.env with
        advances := s.env.advances.tail, clockReads := s.env.clockReads + 1, now := s.env.now + s.env.nextAdvance } }

/-! ### The Reading Cache -/

/-- The staleness check: without a Reading, or with caching disabled, stale and no clock answer drawn; else one clock answer,
stale when the elapsed time is at least the window; no other state is written (R132). -/
def Obligations.StalenessCheck : Prop :=
  ∀ s : State,
    (s.rdg.valid = false → s.stale = true ∧ s.afterStale = s) ∧
      (s.cfg.cacheDisabled = true → s.stale = true ∧ s.afterStale = s) ∧
      (s.rdg.valid = true → s.cfg.cacheDisabled = false →
        (s.stale = true ↔ s.cfg.windowS.toNat * 10 ^ 9 ≤ s.env.nextClock - s.rdg.ts) ∧
          s.afterStale =
            { s with
              env := { s.env with
                advances := s.env.advances.tail, clockReads := s.env.clockReads + 1, now := s.env.nextClock } })

/-- With a fresh Reading the value accessors respond at once with its value and start no cycle; nothing else changes but the clock
answer the staleness check drew (R134 to R137, R142; number format D16). -/
def Obligations.FreshAccessorsAnswerAtOnce : Prop :=
  ∀ s : State, s.phase = .idle → s.seq.pending = none → s.stale = false →
    exec .tempc s =
        .next { s.afterStale with
          port := { s.port with rsps := s.port.rsps ++ [.value s.rdg.temp10.toNat] } } ∧
      exec .tempf s =
        .next { s.afterStale with
          port := { s.port with rsps := s.port.rsps ++ [.value (18 * s.rdg.temp10.toNat + 3200)] } } ∧
      exec .humid s =
        .next { s.afterStale with
          port := { s.port with rsps := s.port.rsps ++ [.value s.rdg.hum10.toNat] } }

/-- With a stale or absent Reading every accessor starts one read cycle, whatever the cause: `ok` and DIAG are cleared, the phase
is `HS_HIGH`, no response yet (R133, R134, R138). -/
def Obligations.StaleAccessorsStartOneCycle : Prop :=
  ∀ (i : Instr) (s : State), i.runsCycle = true → i ≠ .force → s.phase = .idle → s.seq.pending ≠ some i →
    s.stale = true →
    exec i s =
      .next { s.afterStale with
        phase := .hsHigh
        wk := { s.wk with ok := false }
        diag := { s.diag with lastFault := 0, cto := false, info := none }
        seq := { pending := some i, polling := false, holding := false } }

/-- With caching disabled every accessor call starts a cycle, whatever RDG holds, and draws no clock answer for it; after the
cycle the accessor returns what RDG then holds, or ABSENT, not an error (R141; the payloads R135 to R138, number format D16, the
clock answer of SINCE D30). -/
def Obligations.DisabledCacheAlwaysRunsACycle : Prop :=
  ∀ (i : Instr) (s : State), i.runsCycle = true → s.phase = .idle → s.cfg.cacheDisabled = true →
    (s.seq.pending ≠ some i →
      ∃ t : State, exec i s = .next t ∧ t.phase = .hsHigh ∧ t.seq.pending = some i ∧ t.rdg = s.rdg ∧ t.env = s.env ∧
        t.port = s.port) ∧
      (s.seq.pending = some i → i ≠ .force →
        ∃ (t : State) (r : Response), exec i s = .next t ∧ t.rdg = s.rdg ∧ t.port.rsps = s.port.rsps ++ [r] ∧
          (s.rdg.valid = false → r = .absent) ∧
          (s.rdg.valid = true →
            (i = .tempc → r = .value s.rdg.celsius10) ∧ (i = .tempf → r = .value s.rdg.fahrenheit100) ∧
              (i = .humid → r = .value s.rdg.humidity10) ∧
              (i = .since → r = .value (s.env.nextClock - s.rdg.ts))))

/-- Back from its cycle, whether it succeeded or failed, a value accessor responds with what RDG then holds, or ABSENT; the
response is its only effect on the block (R134 to R137; the return as an execution of its own is log 4). -/
def Obligations.AccessorsAnswerAfterTheCycle : Prop :=
  ∀ s : State,
    (s.seq.pending = some .tempc →
      exec .tempc s =
        .next { s with
          seq := { s.seq with pending := none }
          port := { s.port with
            rsps := s.port.rsps ++ [if s.rdg.valid then .value s.rdg.temp10.toNat else .absent] } }) ∧
      (s.seq.pending = some .tempf →
        exec .tempf s =
          .next { s with
            seq := { s.seq with pending := none }
            port := { s.port with
              rsps := s.port.rsps ++ [if s.rdg.valid then .value (18 * s.rdg.temp10.toNat + 3200) else .absent] } }) ∧
      (s.seq.pending = some .humid →
        exec .humid s =
          .next { s with
            seq := { s.seq with pending := none }
            port := { s.port with
              rsps := s.port.rsps ++ [if s.rdg.valid then .value s.rdg.hum10.toNat else .absent] } })

/-- SINCE responds with the time elapsed at a clock answer drawn after the staleness check (a fresh Reading) or after the cycle,
and ABSENT without a Reading (R138, decision D30). The premise `ts ≤ now` holds in every state a run reaches (`State.Inv`). -/
def Obligations.SinceAnswersTheElapsedTime : Prop :=
  ∀ s : State, (s.rdg.valid = true → s.rdg.ts ≤ s.env.now) →
    (s.phase = .idle → s.seq.pending = none → s.stale = false →
      ∃ t : State, exec .since s = .next t ∧
        t.port = { s.port with rsps := s.port.rsps ++ [.value (t.env.now - s.rdg.ts)] } ∧
        s.rdg.ts ≤ t.env.now ∧ t.env.clockReads = s.env.clockReads + 2 ∧ t.env.now = s.afterClock.env.nextClock ∧
        t = { s with port := t.port, env := t.env }) ∧
      (s.seq.pending = some .since → s.rdg.valid = true →
        ∃ t : State, exec .since s = .next t ∧
          t.port = { s.port with rsps := s.port.rsps ++ [.value (t.env.now - s.rdg.ts)] } ∧
          s.rdg.ts ≤ t.env.now ∧ t.env.clockReads = s.env.clockReads + 1 ∧ t.env.now = s.env.nextClock ∧
          t = { s with port := t.port, env := t.env, seq := { s.seq with pending := none } }) ∧
      (s.seq.pending = some .since → s.rdg.valid = false →
        exec .since s =
          .next { s with
            seq := { s.seq with pending := none }
            port := { s.port with rsps := s.port.rsps ++ [.absent] } })

/-- TEMPF's payload is exactly the Celsius reading times 1.8 plus 32, in hundredths (R136; number format D16). -/
def Obligations.FahrenheitIsExact : Prop :=
  ∀ r : Rdg, (r.fahrenheit100 : ℚ) / 100 = (r.celsius10 : ℚ) / 10 * (18 / 10) + 32

/-- FORCE runs one cycle whatever the cache holds, and then responds TRUE or FALSE by the outcome of the cycle; a FALSE leaves
RDG as it was (R139). -/
def Obligations.ForceRunsACycleAndReports : Prop :=
  ∀ s : State,
    (s.phase = .idle → s.seq.pending = none →
      exec .force s =
        .next { s with
          phase := .hsHigh
          wk := { s.wk with ok := false }
          diag := { s.diag with lastFault := 0, cto := false, info := none }
          seq := { pending := some .force, polling := false, holding := false } }) ∧
      (s.seq.pending = some .force →
        exec .force s =
          .next { s with
            seq := { s.seq with pending := none }
            port := { s.port with rsps := s.port.rsps ++ [if s.wk.ok then .isTrue else .isFalse] } })

/-- CLOSE in `IDLE` or `DEAD` releases the pin, ends the Reading's validity and goes to `CLOSED` with DONE; no pin call, nothing
else (R140, decision D28). -/
def Obligations.CloseReleasesThePin : Prop :=
  ∀ s : State, s.phase = .idle ∨ s.phase = .dead →
    exec .close s =
      .next { s with
        phase := .closed
        pin := { s.pin with owned := false }
        rdg := { s.rdg with valid := false }
        port := { s.port with rsps := s.port.rsps ++ [.done] } }

/-! ### Rules about the whole machine -/

/-- "Updated only on a successful decode": COMMIT alone writes the values, the timestamp and validity of the Reading; CLOSE and
CONSTRUCT alone end its validity (R20, R123). -/
def Obligations.OnlyCommitWritesTheReading : Prop :=
  ∀ (i : Instr) (s t : State), exec i s = .next t →
    (i ≠ .commit → t.rdg.hum10 = s.rdg.hum10 ∧ t.rdg.temp10 = s.rdg.temp10 ∧ t.rdg.ts = s.rdg.ts) ∧
      (i ≠ .commit → t.rdg.valid = true → s.rdg.valid = true) ∧
      (s.rdg.valid = true → t.rdg.valid = false → i = .close ∨ i.isConstruct = true)

/-- The three invariants of RDG along a step that is no hardware reset (R24): the timestamp only moves forward; the fields are
written together, by COMMIT, from one frame; an unsuccessful attempt never ends or changes a valid Reading. -/
def Obligations.ReadingInvariants : Prop :=
  ∀ s t : State, s.Inv → s.env.resetNow = false → step s = .next t →
    (s.rdg.valid = true → t.rdg.valid = true → s.rdg.ts ≤ t.rdg.ts) ∧
      (s.phase = .commit → t.rdg.valid = true ∧
        t.rdg.hum10.toNat = 10 * s.wk.bytes[0].toNat + s.wk.bytes[1].toNat ∧
        t.rdg.temp10.toNat = 10 * s.wk.bytes[2].toNat + s.wk.bytes[3].toNat ∧ t.rdg.ts = t.env.now) ∧
      (s.phase ≠ .commit → t.phase ≠ .closed → t.rdg = s.rdg)

/-- Each working register is written only by the stages R14 names: `cur`, `cnt` by POLL; the Classifier's registers by CLASSIFY;
`byte` and `sum` by DECODE; `ok` by the read cycle (its start, its faults, COMMIT). -/
def Obligations.WorkingRegistersHaveTheirWriters : Prop :=
  ∀ (i : Instr) (s t : State), exec i s = .next t →
    (i ≠ .poll → t.wk.cur = s.wk.cur ∧ t.wk.cnt = s.wk.cnt) ∧
      (i ≠ .classify →
        t.wk.n = s.wk.n ∧ t.wk.t = s.wk.t ∧ t.wk.sa = s.wk.sa ∧ t.wk.sb = s.wk.sb ∧ t.wk.qa = s.wk.qa ∧
          t.wk.qb = s.wk.qb ∧ t.wk.va = s.wk.va ∧ t.wk.vb = s.wk.vb ∧ t.wk.sel = s.wk.sel ∧ t.wk.thr = s.wk.thr ∧
          t.wk.bits = s.wk.bits) ∧
      (i ≠ .decode → t.wk.bytes = s.wk.bytes ∧ t.wk.sum = s.wk.sum) ∧
      (t.wk.ok ≠ s.wk.ok → i.runsCycle = true ∨ i = .classify ∨ i = .decode ∨ i = .commit)

/-- The only store is `Append`, only in a POLL step that sees a level change, at address `len(raw)`; every entry below keeps its
value. POLL empties the buffer at its start, no other instruction touches it (R42; the emptying is R41's). -/
def Obligations.OnlyPollStores : Prop :=
  ∀ (i : Instr) (s t : State), exec i s = .next t →
    (i ≠ .poll → t.raw = s.raw) ∧
      (i = .poll → s.seq.polling = false → t.raw = []) ∧
      (i = .poll → s.seq.polling = true → s.env.nextLevel = s.wk.cur → t.raw = s.raw) ∧
      (i = .poll → s.seq.polling = true → s.env.nextLevel ≠ s.wk.cur →
        t.raw.length = s.raw.length + 1 ∧ t.raw.read s.raw.length = some s.wk.cnt ∧
          ∀ addr, addr < s.raw.length → t.raw.read addr = s.raw.read addr)

/-- `PinMode` and `PinWrite` are issued only by the handshake, always on `CFG.pin`, and `PinRead` only by CALIBRATE (`CAL_READS`
times) and POLL (once), each read consuming one answer (R46, R190). -/
def Obligations.PinIsReachedOnlyByItsStages : Prop :=
  ∀ (i : Instr) (s t : State), exec i s = .next t →
    (i ≠ .handshake1 → i ≠ .handshake2 → i ≠ .handshake3 →
      t.env.calls = s.env.calls ∧ t.pin.dir = s.pin.dir ∧ t.pin.pull = s.pin.pull ∧ t.pin.out = s.pin.out) ∧
      (∃ new, t.env.calls = s.env.calls ++ new ∧
        ∀ c ∈ new, (∃ d p, c = .setMode s.cfg.pin d p) ∨ (∃ l, c = .write s.cfg.pin l) ∨ ∃ ms, c = .delay ms) ∧
      (∃ k, k = (if i = .poll then 1 else if i = .calibrate then s.par.calReads else 0) ∧
        t.env.pinReads = s.env.pinReads + k ∧ t.env.levels = s.env.levels.drop k)

/-- Successive clock answers never decrease, and the clock is read only by CALIBRATE, COMMIT and the accessors (R164, decision
D4; by construction of the answers, log 2). -/
def Obligations.ClockNeverDecreases : Prop :=
  ∀ (i : Instr) (s t : State), exec i s = .next t →
    s.env.now ≤ t.env.now ∧
      (i ≠ .calibrate → i ≠ .commit → i ≠ .tempc → i ≠ .tempf → i ≠ .humid → i ≠ .since →
        t.env.clockReads = s.env.clockReads ∧ t.env.now = s.env.now)

/-- CFG is written once between two hardware resets: by CONSTRUCT alone, in `RESET` alone, which that execution leaves and no
instruction enters. No instruction changes the parameters or the host's queue, and only the two holds of the handshake consume
the answers of `Delay` calls (R21, R30, R56; the queue, the parameters and the answers are logs 6, 12, 3). -/
def Obligations.ConfigurationIsWrittenOnce : Prop :=
  ∀ (i : Instr) (s t : State), exec i s = .next t →
    (t.cfg ≠ s.cfg → i.isConstruct = true ∧ s.phase = .reset ∧ t.phase ≠ .reset) ∧ (t.phase = .reset → s.phase = .reset) ∧
      t.par = s.par ∧ t.port.cmds = s.port.cmds ∧
      (i ≠ .handshake1 → i ≠ .handshake2 → t.env.delays = s.env.delays)

/-- Taking a non-fatal fault leaves RDG, CFG, CAL, PIN, the buffer, the port and the environment untouched, clears `ok`, records
the code and returns to `IDLE` (what CLASSIFY and DECODE have computed before it, `n`, `byte`, `sum`, stays computed); the operation that started the cycle is still in progress (R156, decision D31). -/
def Obligations.NonFatalFaultKeepsTheReading : Prop :=
  ∀ (i : Instr) (s t : State), exec i s = .next t → i = .classify ∨ i = .decode → t.phase = .idle →
    t.rdg = s.rdg ∧ t.cfg = s.cfg ∧ t.cal = s.cal ∧ t.pin = s.pin ∧ t.raw = s.raw ∧ t.seq = s.seq ∧ t.port = s.port ∧
      t.env = s.env ∧ t.par = s.par ∧ t.wk.ok = false ∧ t.wk.bits = s.wk.bits ∧
      t.diag.lastFault = (if i = .classify then 3 else 4) ∧ t.diag.cto = s.diag.cto ∧ t.diag.lastLen = s.diag.lastLen

/-- The phase moves only as the transition table says (R19, decision D21); hardware reset goes to `RESET` from anywhere. -/
def Obligations.PhaseFollowsTheTable : Prop :=
  ∀ s t : State, s.Inv → step s = .next t →
    (s.env.resetNow = false → s.phase.mayFollow t.phase = true) ∧ (s.env.resetNow = true → t.phase = .reset)

/-- Every step keeps the invariant of the machine (`State.Inv`, whose clauses cite R16, R20, R22, R23, R26, R44, R75, R94, R122,
R133, R153, R157). -/
def Obligations.StepKeepsTheInvariant : Prop :=
  ∀ s t : State, s.Inv → step s = .next t → t.Inv

/-- The state after reset meets the invariant. -/
def Obligations.ResetMeetsTheInvariant : Prop := State.reset.Inv

/-- A good frame is delivered (R133, R139, R103; capture by D8, values by D16): FORCE at the port of an idle instance, on a line
that carries any preamble of runs within the bound, 40 pairs of a constant marker and data runs `short ≤ marker < long` with
both occurring and a matching checksum, and then holds still, responds TRUE with exactly the frame's values in RDG, and leaves
the pin an input pulled up. Frames whose bits are all alike and data runs first in their pairs fall under
`AcceptedCycleIsDelivered`. The number of steps and the answers of the `Delay` calls are the model's (logs 3, 4). -/
def Obligations.GoodFrameIsDelivered : Prop :=
  ∀ (s : State) (cmd : HostCmd) (cmds : List HostCmd) (l : Level) (preamble : List Nat) (m short long : Nat)
    (bits : Vector Bool 40) (rest : List Level),
    s.phase = .idle → s.seq.pending = none → s.env.resets = [] → (∀ b ∈ s.env.delays.take 2, b = true) →
    s.port.cmds = cmd :: cmds → cmd.op = 5 → (∀ r ∈ preamble, r < s.cal.maxIterations) → short ≤ m → m < long →
    long < s.cal.maxIterations → acceptedBits bits = true → (∃ (j : Nat) (h : j < 40), bits[j] = true) →
    (∃ (j : Nat) (h : j < 40), bits[j] = false) →
    s.env.levels = samplesOf l (preamble ++ pairTail m short long bits ++ [s.cal.maxIterations]) ++ rest →
    ∃ t : State,
      stepN (captureReads s.cal.maxIterations (preamble ++ pairTail m short long bits) + 8) s = .next t ∧
        t.phase = .idle ∧ t.seq.pending = none ∧ t.port = { cmds := cmds, rsps := s.port.rsps ++ [.isTrue] } ∧
        t.rdg.valid = true ∧ t.rdg.hum10.toNat = 10 * (byteAt bits 0).toNat + (byteAt bits 1).toNat ∧
        t.rdg.temp10.toNat = 10 * (byteAt bits 2).toNat + (byteAt bits 3).toNat ∧ t.rdg.ts = s.env.nextClock ∧
        t.pin = { s.pin with dir := some .input, pull := some .up, out := some .low } ∧ t.cfg = s.cfg ∧ t.cal = s.cal ∧
        t.env.levels = rest

/-- A failed cycle is absorbed (R134, R139, R156, R158): an operation that starts a cycle on a line with fewer than 80 changes
(InsufficientSamples) or whose last 80 runs classify to a frame with a wrong checksum (ChecksumMismatch) ends with RDG exactly as
it was and the fault's code in DIAG; FORCE responds FALSE, an accessor the old value or ABSENT, never a failure. The number of
steps and the answers of the `Delay` calls are the model's (logs 3, 4). -/
def Obligations.FailedCycleIsAbsorbed : Prop :=
  ∀ (s : State) (cmd : HostCmd) (cmds : List HostCmd) (i : Instr) (l : Level) (runs : List Nat) (rest : List Level),
    s.phase = .idle → s.seq.pending = none → s.env.resets = [] → (∀ b ∈ s.env.delays.take 2, b = true) →
    s.port.cmds = cmd :: cmds → decodeHostCmd cmd = .instr i → i.runsCycle = true → i = .force ∨ s.stale = true →
    1 ≤ s.cal.maxIterations → (∀ r ∈ runs, r < s.cal.maxIterations) →
    (runs.length < 80 ∨
      ∃ tail, Memory.load runs (runs.length - 80) 80 = some tail ∧ acceptedBits (classifyBits tail) = false) →
    s.env.levels = samplesOf l (runs ++ [s.cal.maxIterations]) ++ rest →
    ∃ (t : State) (r : Response),
      stepN (captureReads s.cal.maxIterations runs + if runs.length < 80 then 6 else 7) s = .next t ∧ t.phase = .idle ∧
      t.seq.pending = none ∧ t.rdg = s.rdg ∧ t.port = { cmds := cmds, rsps := s.port.rsps ++ [r] } ∧
      t.diag.lastFault = (if runs.length < 80 then 3 else 4) ∧ t.diag.lastLen = runs.length ∧
      t.pin = { s.pin with dir := some .input, pull := some .up, out := some .low } ∧ t.cfg = s.cfg ∧ t.cal = s.cal ∧
      (i = .force → r = .isFalse) ∧ (i ≠ .force → s.rdg.valid = false → r = .absent) ∧
      (s.rdg.valid = true →
        (i = .tempc → r = .value s.rdg.celsius10) ∧ (i = .tempf → r = .value s.rdg.fahrenheit100) ∧
          (i = .humid → r = .value s.rdg.humidity10) ∧ (i = .since → r = .value (t.env.now - s.rdg.ts)))

/-- A cycle that succeeds is delivered, whatever operation started it (R133, R134 to R139): on any line whose runs within the bound
end in 80 that CLASSIFY reads as a frame with a matching checksum, the operation ends with exactly that frame's values in RDG
and answers with them: FORCE TRUE, an accessor its value of the new Reading. This covers either alignment, an arbitrary
preamble, and frames whose bits are all alike. The number of steps and the answers of the `Delay` calls are the model's (logs
3, 4). -/
def Obligations.AcceptedCycleIsDelivered : Prop :=
  ∀ (s : State) (cmd : HostCmd) (cmds : List HostCmd) (i : Instr) (l : Level) (runs : List Nat) (tail : Vector Nat 80)
    (rest : List Level),
    s.phase = .idle → s.seq.pending = none → s.env.resets = [] → (∀ b ∈ s.env.delays.take 2, b = true) →
    s.port.cmds = cmd :: cmds → decodeHostCmd cmd = .instr i → i.runsCycle = true → i = .force ∨ s.stale = true →
    1 ≤ s.cal.maxIterations → (∀ r ∈ runs, r < s.cal.maxIterations) → Memory.load runs (runs.length - 80) 80 = some tail →
    acceptedBits (classifyBits tail) = true →
    s.env.levels = samplesOf l (runs ++ [s.cal.maxIterations]) ++ rest →
    ∃ (t : State) (r : Response), stepN (captureReads s.cal.maxIterations runs + 8) s = .next t ∧ t.phase = .idle ∧
      t.seq.pending = none ∧ t.port = { cmds := cmds, rsps := s.port.rsps ++ [r] } ∧ t.rdg.valid = true ∧
      t.rdg.hum10.toNat = 10 * (byteAt (classifyBits tail) 0).toNat + (byteAt (classifyBits tail) 1).toNat ∧
      t.rdg.temp10.toNat = 10 * (byteAt (classifyBits tail) 2).toNat + (byteAt (classifyBits tail) 3).toNat ∧
      t.rdg.ts = (if i = .force then s.env.nextClock else s.afterStale.env.nextClock) ∧ t.diag.lastFault = 0 ∧
      t.pin = { s.pin with dir := some .input, pull := some .up, out := some .low } ∧ t.cfg = s.cfg ∧ t.cal = s.cal ∧
      (i = .force → r = .isTrue) ∧ (i = .tempc → r = .value t.rdg.celsius10) ∧
      (i = .tempf → r = .value t.rdg.fahrenheit100) ∧ (i = .humid → r = .value t.rdg.humidity10) ∧
      (i = .since → r = .value (t.env.now - t.rdg.ts))
end

