-- ==== Sys2Proof/Laws/State.lean ====
section
/-! SUPPORT. What each field of the state is after each field update and each shared operation: one lemma a field. -/

namespace Sys2Proof.Machine

/-! ### Field updates -/

@[simp] theorem State.setPhase_phase (s : State) (x : Phase) : (s.setPhase x).phase = x := rfl

@[simp] theorem State.setPhase_wk (s : State) (x : Phase) : (s.setPhase x).wk = s.wk := rfl

@[simp] theorem State.setPhase_cfg (s : State) (x : Phase) : (s.setPhase x).cfg = s.cfg := rfl

@[simp] theorem State.setPhase_cal (s : State) (x : Phase) : (s.setPhase x).cal = s.cal := rfl

@[simp] theorem State.setPhase_rdg (s : State) (x : Phase) : (s.setPhase x).rdg = s.rdg := rfl

@[simp] theorem State.setPhase_diag (s : State) (x : Phase) : (s.setPhase x).diag = s.diag := rfl

@[simp] theorem State.setPhase_pin (s : State) (x : Phase) : (s.setPhase x).pin = s.pin := rfl

@[simp] theorem State.setPhase_raw (s : State) (x : Phase) : (s.setPhase x).raw = s.raw := rfl

@[simp] theorem State.setPhase_seq (s : State) (x : Phase) : (s.setPhase x).seq = s.seq := rfl

@[simp] theorem State.setPhase_port (s : State) (x : Phase) : (s.setPhase x).port = s.port := rfl

@[simp] theorem State.setPhase_par (s : State) (x : Phase) : (s.setPhase x).par = s.par := rfl

@[simp] theorem State.setPhase_env (s : State) (x : Phase) : (s.setPhase x).env = s.env := rfl

@[simp] theorem State.setWk_phase (s : State) (x : Work) : (s.setWk x).phase = s.phase := rfl

@[simp] theorem State.setWk_wk (s : State) (x : Work) : (s.setWk x).wk = x := rfl

@[simp] theorem State.setWk_cfg (s : State) (x : Work) : (s.setWk x).cfg = s.cfg := rfl

@[simp] theorem State.setWk_cal (s : State) (x : Work) : (s.setWk x).cal = s.cal := rfl

@[simp] theorem State.setWk_rdg (s : State) (x : Work) : (s.setWk x).rdg = s.rdg := rfl

@[simp] theorem State.setWk_diag (s : State) (x : Work) : (s.setWk x).diag = s.diag := rfl

@[simp] theorem State.setWk_pin (s : State) (x : Work) : (s.setWk x).pin = s.pin := rfl

@[simp] theorem State.setWk_raw (s : State) (x : Work) : (s.setWk x).raw = s.raw := rfl

@[simp] theorem State.setWk_seq (s : State) (x : Work) : (s.setWk x).seq = s.seq := rfl

@[simp] theorem State.setWk_port (s : State) (x : Work) : (s.setWk x).port = s.port := rfl

@[simp] theorem State.setWk_par (s : State) (x : Work) : (s.setWk x).par = s.par := rfl

@[simp] theorem State.setWk_env (s : State) (x : Work) : (s.setWk x).env = s.env := rfl

@[simp] theorem State.setRdg_phase (s : State) (x : Rdg) : (s.setRdg x).phase = s.phase := rfl

@[simp] theorem State.setRdg_wk (s : State) (x : Rdg) : (s.setRdg x).wk = s.wk := rfl

@[simp] theorem State.setRdg_cfg (s : State) (x : Rdg) : (s.setRdg x).cfg = s.cfg := rfl

@[simp] theorem State.setRdg_cal (s : State) (x : Rdg) : (s.setRdg x).cal = s.cal := rfl

@[simp] theorem State.setRdg_rdg (s : State) (x : Rdg) : (s.setRdg x).rdg = x := rfl

@[simp] theorem State.setRdg_diag (s : State) (x : Rdg) : (s.setRdg x).diag = s.diag := rfl

@[simp] theorem State.setRdg_pin (s : State) (x : Rdg) : (s.setRdg x).pin = s.pin := rfl

@[simp] theorem State.setRdg_raw (s : State) (x : Rdg) : (s.setRdg x).raw = s.raw := rfl

@[simp] theorem State.setRdg_seq (s : State) (x : Rdg) : (s.setRdg x).seq = s.seq := rfl

@[simp] theorem State.setRdg_port (s : State) (x : Rdg) : (s.setRdg x).port = s.port := rfl

@[simp] theorem State.setRdg_par (s : State) (x : Rdg) : (s.setRdg x).par = s.par := rfl

@[simp] theorem State.setRdg_env (s : State) (x : Rdg) : (s.setRdg x).env = s.env := rfl

@[simp] theorem State.setRaw_phase (s : State) (x : Memory) : (s.setRaw x).phase = s.phase := rfl

@[simp] theorem State.setRaw_wk (s : State) (x : Memory) : (s.setRaw x).wk = s.wk := rfl

@[simp] theorem State.setRaw_cfg (s : State) (x : Memory) : (s.setRaw x).cfg = s.cfg := rfl

@[simp] theorem State.setRaw_cal (s : State) (x : Memory) : (s.setRaw x).cal = s.cal := rfl

@[simp] theorem State.setRaw_rdg (s : State) (x : Memory) : (s.setRaw x).rdg = s.rdg := rfl

@[simp] theorem State.setRaw_diag (s : State) (x : Memory) : (s.setRaw x).diag = s.diag := rfl

@[simp] theorem State.setRaw_pin (s : State) (x : Memory) : (s.setRaw x).pin = s.pin := rfl

@[simp] theorem State.setRaw_raw (s : State) (x : Memory) : (s.setRaw x).raw = x := rfl

@[simp] theorem State.setRaw_seq (s : State) (x : Memory) : (s.setRaw x).seq = s.seq := rfl

@[simp] theorem State.setRaw_port (s : State) (x : Memory) : (s.setRaw x).port = s.port := rfl

@[simp] theorem State.setRaw_par (s : State) (x : Memory) : (s.setRaw x).par = s.par := rfl

@[simp] theorem State.setRaw_env (s : State) (x : Memory) : (s.setRaw x).env = s.env := rfl

@[simp] theorem State.setSeq_phase (s : State) (x : Seq) : (s.setSeq x).phase = s.phase := rfl

@[simp] theorem State.setSeq_wk (s : State) (x : Seq) : (s.setSeq x).wk = s.wk := rfl

@[simp] theorem State.setSeq_cfg (s : State) (x : Seq) : (s.setSeq x).cfg = s.cfg := rfl

@[simp] theorem State.setSeq_cal (s : State) (x : Seq) : (s.setSeq x).cal = s.cal := rfl

@[simp] theorem State.setSeq_rdg (s : State) (x : Seq) : (s.setSeq x).rdg = s.rdg := rfl

@[simp] theorem State.setSeq_diag (s : State) (x : Seq) : (s.setSeq x).diag = s.diag := rfl

@[simp] theorem State.setSeq_pin (s : State) (x : Seq) : (s.setSeq x).pin = s.pin := rfl

@[simp] theorem State.setSeq_raw (s : State) (x : Seq) : (s.setSeq x).raw = s.raw := rfl

@[simp] theorem State.setSeq_seq (s : State) (x : Seq) : (s.setSeq x).seq = x := rfl

@[simp] theorem State.setSeq_port (s : State) (x : Seq) : (s.setSeq x).port = s.port := rfl

@[simp] theorem State.setSeq_par (s : State) (x : Seq) : (s.setSeq x).par = s.par := rfl

@[simp] theorem State.setSeq_env (s : State) (x : Seq) : (s.setSeq x).env = s.env := rfl

@[simp] theorem State.setEnv_phase (s : State) (x : Env) : (s.setEnv x).phase = s.phase := rfl

@[simp] theorem State.setEnv_wk (s : State) (x : Env) : (s.setEnv x).wk = s.wk := rfl

@[simp] theorem State.setEnv_cfg (s : State) (x : Env) : (s.setEnv x).cfg = s.cfg := rfl

@[simp] theorem State.setEnv_cal (s : State) (x : Env) : (s.setEnv x).cal = s.cal := rfl

@[simp] theorem State.setEnv_rdg (s : State) (x : Env) : (s.setEnv x).rdg = s.rdg := rfl

@[simp] theorem State.setEnv_diag (s : State) (x : Env) : (s.setEnv x).diag = s.diag := rfl

@[simp] theorem State.setEnv_pin (s : State) (x : Env) : (s.setEnv x).pin = s.pin := rfl

@[simp] theorem State.setEnv_raw (s : State) (x : Env) : (s.setEnv x).raw = s.raw := rfl

@[simp] theorem State.setEnv_seq (s : State) (x : Env) : (s.setEnv x).seq = s.seq := rfl

@[simp] theorem State.setEnv_port (s : State) (x : Env) : (s.setEnv x).port = s.port := rfl

@[simp] theorem State.setEnv_par (s : State) (x : Env) : (s.setEnv x).par = s.par := rfl

@[simp] theorem State.setEnv_env (s : State) (x : Env) : (s.setEnv x).env = x := rfl

@[simp] theorem State.setCal_phase (s : State) (x : Cal) : (s.setCal x).phase = s.phase := rfl

@[simp] theorem State.setCal_wk (s : State) (x : Cal) : (s.setCal x).wk = s.wk := rfl

@[simp] theorem State.setCal_cfg (s : State) (x : Cal) : (s.setCal x).cfg = s.cfg := rfl

@[simp] theorem State.setCal_cal (s : State) (x : Cal) : (s.setCal x).cal = x := rfl

@[simp] theorem State.setCal_rdg (s : State) (x : Cal) : (s.setCal x).rdg = s.rdg := rfl

@[simp] theorem State.setCal_diag (s : State) (x : Cal) : (s.setCal x).diag = s.diag := rfl

@[simp] theorem State.setCal_pin (s : State) (x : Cal) : (s.setCal x).pin = s.pin := rfl

@[simp] theorem State.setCal_raw (s : State) (x : Cal) : (s.setCal x).raw = s.raw := rfl

@[simp] theorem State.setCal_seq (s : State) (x : Cal) : (s.setCal x).seq = s.seq := rfl

@[simp] theorem State.setCal_port (s : State) (x : Cal) : (s.setCal x).port = s.port := rfl

@[simp] theorem State.setCal_par (s : State) (x : Cal) : (s.setCal x).par = s.par := rfl

@[simp] theorem State.setCal_env (s : State) (x : Cal) : (s.setCal x).env = s.env := rfl

/-! ### Collaborator calls -/

@[simp] theorem State.pinMode_phase (s : State) (d : Dir) (p : Pull) : (s.pinMode d p).phase = s.phase := rfl

@[simp] theorem State.pinMode_wk (s : State) (d : Dir) (p : Pull) : (s.pinMode d p).wk = s.wk := rfl

@[simp] theorem State.pinMode_cfg (s : State) (d : Dir) (p : Pull) : (s.pinMode d p).cfg = s.cfg := rfl

@[simp] theorem State.pinMode_cal (s : State) (d : Dir) (p : Pull) : (s.pinMode d p).cal = s.cal := rfl

@[simp] theorem State.pinMode_rdg (s : State) (d : Dir) (p : Pull) : (s.pinMode d p).rdg = s.rdg := rfl

@[simp] theorem State.pinMode_diag (s : State) (d : Dir) (p : Pull) : (s.pinMode d p).diag = s.diag := rfl

@[simp] theorem State.pinMode_pin (s : State) (d : Dir) (p : Pull) : (s.pinMode d p).pin = { s.pin with dir := some d, pull := some p } := rfl

@[simp] theorem State.pinMode_raw (s : State) (d : Dir) (p : Pull) : (s.pinMode d p).raw = s.raw := rfl

@[simp] theorem State.pinMode_seq (s : State) (d : Dir) (p : Pull) : (s.pinMode d p).seq = s.seq := rfl

@[simp] theorem State.pinMode_port (s : State) (d : Dir) (p : Pull) : (s.pinMode d p).port = s.port := rfl

@[simp] theorem State.pinMode_par (s : State) (d : Dir) (p : Pull) : (s.pinMode d p).par = s.par := rfl

@[simp] theorem State.pinMode_env (s : State) (d : Dir) (p : Pull) : (s.pinMode d p).env = { s.env with calls := s.env.calls ++ [.setMode s.cfg.pin d p] } := rfl

@[simp] theorem State.pinWrite_phase (s : State) (l : Level) : (s.pinWrite l).phase = s.phase := rfl

@[simp] theorem State.pinWrite_wk (s : State) (l : Level) : (s.pinWrite l).wk = s.wk := rfl

@[simp] theorem State.pinWrite_cfg (s : State) (l : Level) : (s.pinWrite l).cfg = s.cfg := rfl

@[simp] theorem State.pinWrite_cal (s : State) (l : Level) : (s.pinWrite l).cal = s.cal := rfl

@[simp] theorem State.pinWrite_rdg (s : State) (l : Level) : (s.pinWrite l).rdg = s.rdg := rfl

@[simp] theorem State.pinWrite_diag (s : State) (l : Level) : (s.pinWrite l).diag = s.diag := rfl

@[simp] theorem State.pinWrite_pin (s : State) (l : Level) : (s.pinWrite l).pin = { s.pin with out := some l } := rfl

@[simp] theorem State.pinWrite_raw (s : State) (l : Level) : (s.pinWrite l).raw = s.raw := rfl

@[simp] theorem State.pinWrite_seq (s : State) (l : Level) : (s.pinWrite l).seq = s.seq := rfl

@[simp] theorem State.pinWrite_port (s : State) (l : Level) : (s.pinWrite l).port = s.port := rfl

@[simp] theorem State.pinWrite_par (s : State) (l : Level) : (s.pinWrite l).par = s.par := rfl

@[simp] theorem State.pinWrite_env (s : State) (l : Level) : (s.pinWrite l).env = { s.env with calls := s.env.calls ++ [.write s.cfg.pin l] } := rfl

@[simp] theorem Env.nextDelayReturns_calls (e : Env) (cs : List EnvCall) :
    ({ e with calls := cs } : Env).nextDelayReturns = e.nextDelayReturns := rfl

@[simp] theorem State.requestDelay_phase (s : State) (ms : Nat) : (s.requestDelay ms).phase = s.phase := rfl

@[simp] theorem State.requestDelay_wk (s : State) (ms : Nat) : (s.requestDelay ms).wk = s.wk := rfl

@[simp] theorem State.requestDelay_cfg (s : State) (ms : Nat) : (s.requestDelay ms).cfg = s.cfg := rfl

@[simp] theorem State.requestDelay_cal (s : State) (ms : Nat) : (s.requestDelay ms).cal = s.cal := rfl

@[simp] theorem State.requestDelay_rdg (s : State) (ms : Nat) : (s.requestDelay ms).rdg = s.rdg := rfl

@[simp] theorem State.requestDelay_diag (s : State) (ms : Nat) : (s.requestDelay ms).diag = s.diag := rfl

@[simp] theorem State.requestDelay_pin (s : State) (ms : Nat) : (s.requestDelay ms).pin = s.pin := rfl

@[simp] theorem State.requestDelay_raw (s : State) (ms : Nat) : (s.requestDelay ms).raw = s.raw := rfl

@[simp] theorem State.requestDelay_seq (s : State) (ms : Nat) : (s.requestDelay ms).seq = { s.seq with holding := !s.env.nextDelayReturns } := rfl

@[simp] theorem State.requestDelay_port (s : State) (ms : Nat) : (s.requestDelay ms).port = s.port := rfl

@[simp] theorem State.requestDelay_par (s : State) (ms : Nat) : (s.requestDelay ms).par = s.par := rfl

@[simp] theorem State.requestDelay_env (s : State) (ms : Nat) : (s.requestDelay ms).env = { s.env with delays := s.env.delays.tail, calls := s.env.calls ++ [.delay ms] } := rfl

@[simp] theorem State.afterPinRead_phase (s : State) : (s.afterPinRead).phase = s.phase := rfl

@[simp] theorem State.afterPinRead_wk (s : State) : (s.afterPinRead).wk = s.wk := rfl

@[simp] theorem State.afterPinRead_cfg (s : State) : (s.afterPinRead).cfg = s.cfg := rfl

@[simp] theorem State.afterPinRead_cal (s : State) : (s.afterPinRead).cal = s.cal := rfl

@[simp] theorem State.afterPinRead_rdg (s : State) : (s.afterPinRead).rdg = s.rdg := rfl

@[simp] theorem State.afterPinRead_diag (s : State) : (s.afterPinRead).diag = s.diag := rfl

@[simp] theorem State.afterPinRead_pin (s : State) : (s.afterPinRead).pin = s.pin := rfl

@[simp] theorem State.afterPinRead_raw (s : State) : (s.afterPinRead).raw = s.raw := rfl

@[simp] theorem State.afterPinRead_seq (s : State) : (s.afterPinRead).seq = s.seq := rfl

@[simp] theorem State.afterPinRead_port (s : State) : (s.afterPinRead).port = s.port := rfl

@[simp] theorem State.afterPinRead_par (s : State) : (s.afterPinRead).par = s.par := rfl

@[simp] theorem State.afterPinRead_env (s : State) : (s.afterPinRead).env = { s.env with levels := s.env.levels.tail, pinReads := s.env.pinReads + 1 } := rfl

@[simp] theorem State.discardReads_phase (s : State) (k : Nat) : (s.discardReads k).phase = s.phase := rfl

@[simp] theorem State.discardReads_wk (s : State) (k : Nat) : (s.discardReads k).wk = s.wk := rfl

@[simp] theorem State.discardReads_cfg (s : State) (k : Nat) : (s.discardReads k).cfg = s.cfg := rfl

@[simp] theorem State.discardReads_cal (s : State) (k : Nat) : (s.discardReads k).cal = s.cal := rfl

@[simp] theorem State.discardReads_rdg (s : State) (k : Nat) : (s.discardReads k).rdg = s.rdg := rfl

@[simp] theorem State.discardReads_diag (s : State) (k : Nat) : (s.discardReads k).diag = s.diag := rfl

@[simp] theorem State.discardReads_pin (s : State) (k : Nat) : (s.discardReads k).pin = s.pin := rfl

@[simp] theorem State.discardReads_raw (s : State) (k : Nat) : (s.discardReads k).raw = s.raw := rfl

@[simp] theorem State.discardReads_seq (s : State) (k : Nat) : (s.discardReads k).seq = s.seq := rfl

@[simp] theorem State.discardReads_port (s : State) (k : Nat) : (s.discardReads k).port = s.port := rfl

@[simp] theorem State.discardReads_par (s : State) (k : Nat) : (s.discardReads k).par = s.par := rfl

@[simp] theorem State.discardReads_env (s : State) (k : Nat) : (s.discardReads k).env = { s.env with levels := s.env.levels.drop k, pinReads := s.env.pinReads + k } := rfl

@[simp] theorem State.afterClock_phase (s : State) : (s.afterClock).phase = s.phase := rfl

@[simp] theorem State.afterClock_wk (s : State) : (s.afterClock).wk = s.wk := rfl

@[simp] theorem State.afterClock_cfg (s : State) : (s.afterClock).cfg = s.cfg := rfl

@[simp] theorem State.afterClock_cal (s : State) : (s.afterClock).cal = s.cal := rfl

@[simp] theorem State.afterClock_rdg (s : State) : (s.afterClock).rdg = s.rdg := rfl

@[simp] theorem State.afterClock_diag (s : State) : (s.afterClock).diag = s.diag := rfl

@[simp] theorem State.afterClock_pin (s : State) : (s.afterClock).pin = s.pin := rfl

@[simp] theorem State.afterClock_raw (s : State) : (s.afterClock).raw = s.raw := rfl

@[simp] theorem State.afterClock_seq (s : State) : (s.afterClock).seq = s.seq := rfl

@[simp] theorem State.afterClock_port (s : State) : (s.afterClock).port = s.port := rfl

@[simp] theorem State.afterClock_par (s : State) : (s.afterClock).par = s.par := rfl

@[simp] theorem State.afterClock_env (s : State) : (s.afterClock).env = { s.env with advances := s.env.advances.tail, clockReads := s.env.clockReads + 1, now := s.env.nextClock } := rfl

/-! ### Responses, the start of a cycle, the command port, the reset input -/

@[simp] theorem State.respond_phase (s : State) (r : Response) : (s.respond r).phase = s.phase := rfl

@[simp] theorem State.respond_wk (s : State) (r : Response) : (s.respond r).wk = s.wk := rfl

@[simp] theorem State.respond_cfg (s : State) (r : Response) : (s.respond r).cfg = s.cfg := rfl

@[simp] theorem State.respond_cal (s : State) (r : Response) : (s.respond r).cal = s.cal := rfl

@[simp] theorem State.respond_rdg (s : State) (r : Response) : (s.respond r).rdg = s.rdg := rfl

@[simp] theorem State.respond_diag (s : State) (r : Response) : (s.respond r).diag = s.diag := rfl

@[simp] theorem State.respond_pin (s : State) (r : Response) : (s.respond r).pin = s.pin := rfl

@[simp] theorem State.respond_raw (s : State) (r : Response) : (s.respond r).raw = s.raw := rfl

@[simp] theorem State.respond_seq (s : State) (r : Response) : (s.respond r).seq = s.seq := rfl

@[simp] theorem State.respond_port (s : State) (r : Response) : (s.respond r).port = { s.port with rsps := s.port.rsps ++ [r] } := rfl

@[simp] theorem State.respond_par (s : State) (r : Response) : (s.respond r).par = s.par := rfl

@[simp] theorem State.respond_env (s : State) (r : Response) : (s.respond r).env = s.env := rfl

@[simp] theorem State.refuse_phase (s : State) : (s.refuse).phase = s.phase := rfl

@[simp] theorem State.refuse_wk (s : State) : (s.refuse).wk = s.wk := rfl

@[simp] theorem State.refuse_cfg (s : State) : (s.refuse).cfg = s.cfg := rfl

@[simp] theorem State.refuse_cal (s : State) : (s.refuse).cal = s.cal := rfl

@[simp] theorem State.refuse_rdg (s : State) : (s.refuse).rdg = s.rdg := rfl

@[simp] theorem State.refuse_diag (s : State) : (s.refuse).diag = s.diag := rfl

@[simp] theorem State.refuse_pin (s : State) : (s.refuse).pin = s.pin := rfl

@[simp] theorem State.refuse_raw (s : State) : (s.refuse).raw = s.raw := rfl

@[simp] theorem State.refuse_seq (s : State) : (s.refuse).seq = s.seq := rfl

@[simp] theorem State.refuse_port (s : State) : (s.refuse).port = { s.port with rsps := s.port.rsps ++ [.refused] } := rfl

@[simp] theorem State.refuse_par (s : State) : (s.refuse).par = s.par := rfl

@[simp] theorem State.refuse_env (s : State) : (s.refuse).env = s.env := rfl

@[simp] theorem State.finish_phase (s : State) (r : Response) : (s.finish r).phase = s.phase := rfl

@[simp] theorem State.finish_wk (s : State) (r : Response) : (s.finish r).wk = s.wk := rfl

@[simp] theorem State.finish_cfg (s : State) (r : Response) : (s.finish r).cfg = s.cfg := rfl

@[simp] theorem State.finish_cal (s : State) (r : Response) : (s.finish r).cal = s.cal := rfl

@[simp] theorem State.finish_rdg (s : State) (r : Response) : (s.finish r).rdg = s.rdg := rfl

@[simp] theorem State.finish_diag (s : State) (r : Response) : (s.finish r).diag = s.diag := rfl

@[simp] theorem State.finish_pin (s : State) (r : Response) : (s.finish r).pin = s.pin := rfl

@[simp] theorem State.finish_raw (s : State) (r : Response) : (s.finish r).raw = s.raw := rfl

@[simp] theorem State.finish_seq (s : State) (r : Response) : (s.finish r).seq = { s.seq with pending := none } := rfl

@[simp] theorem State.finish_port (s : State) (r : Response) : (s.finish r).port = { s.port with rsps := s.port.rsps ++ [r] } := rfl

@[simp] theorem State.finish_par (s : State) (r : Response) : (s.finish r).par = s.par := rfl

@[simp] theorem State.finish_env (s : State) (r : Response) : (s.finish r).env = s.env := rfl

@[simp] theorem State.startCycle_phase (s : State) (op : Instr) : (s.startCycle op).phase = .hsHigh := rfl

@[simp] theorem State.startCycle_wk (s : State) (op : Instr) : (s.startCycle op).wk = { s.wk with ok := false } := rfl

@[simp] theorem State.startCycle_cfg (s : State) (op : Instr) : (s.startCycle op).cfg = s.cfg := rfl

@[simp] theorem State.startCycle_cal (s : State) (op : Instr) : (s.startCycle op).cal = s.cal := rfl

@[simp] theorem State.startCycle_rdg (s : State) (op : Instr) : (s.startCycle op).rdg = s.rdg := rfl

@[simp] theorem State.startCycle_diag (s : State) (op : Instr) : (s.startCycle op).diag = { s.diag with lastFault := 0, cto := false, info := none } := rfl

@[simp] theorem State.startCycle_pin (s : State) (op : Instr) : (s.startCycle op).pin = s.pin := rfl

@[simp] theorem State.startCycle_raw (s : State) (op : Instr) : (s.startCycle op).raw = s.raw := rfl

@[simp] theorem State.startCycle_seq (s : State) (op : Instr) : (s.startCycle op).seq = { pending := some op, polling := false, holding := false } := rfl

@[simp] theorem State.startCycle_port (s : State) (op : Instr) : (s.startCycle op).port = s.port := rfl

@[simp] theorem State.startCycle_par (s : State) (op : Instr) : (s.startCycle op).par = s.par := rfl

@[simp] theorem State.startCycle_env (s : State) (op : Instr) : (s.startCycle op).env = s.env := rfl

@[simp] theorem State.takeCmd_phase (s : State) : (s.takeCmd).phase = s.phase := rfl

@[simp] theorem State.takeCmd_wk (s : State) : (s.takeCmd).wk = s.wk := rfl

@[simp] theorem State.takeCmd_cfg (s : State) : (s.takeCmd).cfg = s.cfg := rfl

@[simp] theorem State.takeCmd_cal (s : State) : (s.takeCmd).cal = s.cal := rfl

@[simp] theorem State.takeCmd_rdg (s : State) : (s.takeCmd).rdg = s.rdg := rfl

@[simp] theorem State.takeCmd_diag (s : State) : (s.takeCmd).diag = s.diag := rfl

@[simp] theorem State.takeCmd_pin (s : State) : (s.takeCmd).pin = s.pin := rfl

@[simp] theorem State.takeCmd_raw (s : State) : (s.takeCmd).raw = s.raw := rfl

@[simp] theorem State.takeCmd_seq (s : State) : (s.takeCmd).seq = s.seq := rfl

@[simp] theorem State.takeCmd_port (s : State) : (s.takeCmd).port = { s.port with cmds := s.port.cmds.tail } := rfl

@[simp] theorem State.takeCmd_par (s : State) : (s.takeCmd).par = s.par := rfl

@[simp] theorem State.takeCmd_env (s : State) : (s.takeCmd).env = s.env := rfl

@[simp] theorem State.ticked_phase (s : State) : (s.ticked).phase = s.phase := rfl

@[simp] theorem State.ticked_wk (s : State) : (s.ticked).wk = s.wk := rfl

@[simp] theorem State.ticked_cfg (s : State) : (s.ticked).cfg = s.cfg := rfl

@[simp] theorem State.ticked_cal (s : State) : (s.ticked).cal = s.cal := rfl

@[simp] theorem State.ticked_rdg (s : State) : (s.ticked).rdg = s.rdg := rfl

@[simp] theorem State.ticked_diag (s : State) : (s.ticked).diag = s.diag := rfl

@[simp] theorem State.ticked_pin (s : State) : (s.ticked).pin = s.pin := rfl

@[simp] theorem State.ticked_raw (s : State) : (s.ticked).raw = s.raw := rfl

@[simp] theorem State.ticked_seq (s : State) : (s.ticked).seq = s.seq := rfl

@[simp] theorem State.ticked_port (s : State) : (s.ticked).port = s.port := rfl

@[simp] theorem State.ticked_par (s : State) : (s.ticked).par = s.par := rfl

@[simp] theorem State.ticked_env (s : State) : (s.ticked).env = s.env.tick := rfl

@[simp] theorem State.hardwareReset_phase (s : State) : (s.hardwareReset).phase = .reset := rfl

@[simp] theorem State.hardwareReset_wk (s : State) : (s.hardwareReset).wk = Work.reset := rfl

@[simp] theorem State.hardwareReset_cfg (s : State) : (s.hardwareReset).cfg = State.reset.cfg := rfl

@[simp] theorem State.hardwareReset_cal (s : State) : (s.hardwareReset).cal = State.reset.cal := rfl

@[simp] theorem State.hardwareReset_rdg (s : State) : (s.hardwareReset).rdg = State.reset.rdg := rfl

@[simp] theorem State.hardwareReset_diag (s : State) : (s.hardwareReset).diag = State.reset.diag := rfl

@[simp] theorem State.hardwareReset_pin (s : State) : (s.hardwareReset).pin = { s.pin with owned := false } := rfl

@[simp] theorem State.hardwareReset_raw (s : State) : (s.hardwareReset).raw = [] := rfl

@[simp] theorem State.hardwareReset_seq (s : State) : (s.hardwareReset).seq = State.reset.seq := rfl

@[simp] theorem State.hardwareReset_port (s : State) : (s.hardwareReset).port = s.port := rfl

@[simp] theorem State.hardwareReset_par (s : State) : (s.hardwareReset).par = s.par := rfl

@[simp] theorem State.hardwareReset_env (s : State) : (s.hardwareReset).env = { s.env with now := 0 } := rfl

/-! ### Taking a fault -/

@[simp] theorem State.raise_cfg (s : State) (f : Raised) : (s.raise f).cfg = s.cfg := by cases f <;> rfl

@[simp] theorem State.raise_cal (s : State) (f : Raised) : (s.raise f).cal = s.cal := by cases f <;> rfl

@[simp] theorem State.raise_rdg (s : State) (f : Raised) : (s.raise f).rdg = s.rdg := by cases f <;> rfl

@[simp] theorem State.raise_pin (s : State) (f : Raised) : (s.raise f).pin = s.pin := by cases f <;> rfl

@[simp] theorem State.raise_raw (s : State) (f : Raised) : (s.raise f).raw = s.raw := by cases f <;> rfl

@[simp] theorem State.raise_seq (s : State) (f : Raised) : (s.raise f).seq = s.seq := by cases f <;> rfl

@[simp] theorem State.raise_port (s : State) (f : Raised) : (s.raise f).port = s.port := by cases f <;> rfl

@[simp] theorem State.raise_par (s : State) (f : Raised) : (s.raise f).par = s.par := by cases f <;> rfl

@[simp] theorem State.raise_env (s : State) (f : Raised) : (s.raise f).env = s.env := by cases f <;> rfl

@[simp] theorem State.raise_diag (s : State) (f : Raised) : (s.raise f).diag = { s.diag with lastFault := f.code, info := some f } := by cases f <;> rfl

end Sys2Proof.Machine
end

