-- ==== Sys2Proof/Laws/Memory.lean ====
section
/-! SUPPORT. The RawSignal buffer: read after append, the tail load, and that every operation keeps `Memory.wf`
(20_memory.md R42 to R44). -/

namespace Sys2Proof.Machine

@[simp] theorem Memory.wf_nil (b : Nat) : Memory.wf b [] = true := rfl

theorem Memory.wf_iff (b : Nat) (m : Memory) : m.wf b = true ↔ ∀ v ∈ m, v < b := by simp [Memory.wf]

/-- `Append` keeps the form when the new entry is below the bound. -/
theorem Memory.wf_append {b v : Nat} {m : Memory} (hm : m.wf b = true) (hv : v < b) : (m.append v).wf b = true := by
  rw [Memory.wf_iff] at hm ⊢
  intro x hx
  rcases List.mem_append.1 hx with h | h
  · exact hm x h
  · exact (List.mem_singleton.1 h) ▸ hv

@[simp] theorem Memory.length_append (m : Memory) (v : Nat) : (m.append v).length = m.length + 1 := by
  simp [Memory.append]

/-- Every entry below the store address reads as before (R42). -/
theorem Memory.read_append_lt {m : Memory} {v addr : Nat} (h : addr < m.length) :
    (m.append v).read addr = m.read addr := by
  simp [Memory.append, Memory.read, List.getElem?_append_left h]

/-- The stored entry stands at address `len(raw)` (R42). -/
theorem Memory.read_append_eq (m : Memory) (v : Nat) : (m.append v).read m.length = some v := by
  simp [Memory.append, Memory.read]

/-- A load has a value exactly when all its entries exist (R43). -/
theorem Memory.load_isSome (m : Memory) (addr n : Nat) : (m.load addr n).isSome = true ↔ addr + n ≤ m.length := by
  unfold Memory.load
  split <;> simp [*]

/-- What a load gives: entry `k` is the buffer's entry `addr + k` (R10). -/
theorem Memory.load_read {m : Memory} {addr n : Nat} {t : Vector Nat n} (h : m.load addr n = some t) (k : Nat)
    (hk : k < n) : m.read (addr + k) = some t[k] := by
  unfold Memory.load at h
  split at h
  · rename_i hle
    obtain rfl := Option.some.inj h
    have : addr + k < m.length := by omega
    simp [Memory.read, List.getElem?_eq_getElem this]
  · cases h

/-- The tail load of CLASSIFY always has a value behind its length test (R43, R107). -/
theorem Memory.load_tail {m : Memory} (h : 80 ≤ m.length) : ∃ t, m.load (m.length - 80) 80 = some t :=
  Option.isSome_iff_exists.1 ((Memory.load_isSome m _ 80).2 (by omega))

end Sys2Proof.Machine
end

