-- ==== Sys2Proof/Laws/Operands.lean ====
section
/-! SUPPORT. Entries of the vectors the operand forms build (42_classify.md R109, 30_encoding.md R63). -/

namespace Sys2Proof.Machine

@[simp] theorem build_get {α : Type} {n : Nat} (f : Fin n → α) (i : Nat) (h : i < n) : (build f)[i] = f ⟨i, h⟩ := by
  simp [build]

@[simp] theorem build_toList {α : Type} {n : Nat} (f : Fin n → α) : (build f).toList = List.ofFn f := rfl

theorem subA_get (t : Vector Nat 80) (j : Nat) (h : j < 40) : (subA t)[j] = t[2 * j] := build_get _ j h

theorem subB_get (t : Vector Nat 80) (j : Nat) (h : j < 40) : (subB t)[j] = t[2 * j + 1] := build_get _ j h

theorem packBytes_get (bits : Vector Bool 40) (i : Nat) (h : i < 5) : (packBytes bits)[i] = byteAt bits ⟨i, h⟩ :=
  build_get _ i h

/-- When `A` is selected the bits are `A`'s runs against the sum of `B` (R111, R113). -/
theorem classifyBits_selA {t : Vector Nat 80} (h : selectSub (dispersion (subA t)) (dispersion (subB t)) = .a) (j : Nat)
    (hj : j < 40) : (classifyBits t)[j] = bitOf (sumOf (subB t)) t[2 * j] := by
  simp only [classifyBits, h, build_get]
  exact congrArg _ (subA_get t j hj)

/-- When `B` is selected the bits are `B`'s runs against the sum of `A` (R111, R113). -/
theorem classifyBits_selB {t : Vector Nat 80} (h : selectSub (dispersion (subA t)) (dispersion (subB t)) = .b) (j : Nat)
    (hj : j < 40) : (classifyBits t)[j] = bitOf (sumOf (subA t)) t[2 * j + 1] := by
  simp only [classifyBits, h, build_get]
  exact congrArg _ (subB_get t j hj)

theorem selectSub_a_iff (va vb : Nat) : selectSub va vb = .a ↔ vb < va := by
  unfold selectSub
  split <;> simp_all

theorem selectSub_b_iff (va vb : Nat) : selectSub va vb = .b ↔ va ≤ vb := by
  unfold selectSub
  split <;> simp_all

end Sys2Proof.Machine
end

