-- ==== Sys2Proof/Laws/Ops.lean ====
section
/-! SUPPORT. What each shared operation and each meaning can do, said once: provers cite these cases and do not unfold. -/

namespace Sys2Proof.Machine

/-! ### Shared operations -/

/-- A clock answer is never below the last one (60_exceptions.md R164). -/
theorem Env.now_le_nextClock (e : Env) : e.now ≤ e.nextClock := Nat.le_add_right _ _

/-- Taking a fault ends in `DEAD` for the fatal kind, in `IDLE` with `ok` clear for the others (R156, R157). -/
theorem State.raise_cases (s : State) (f : Raised) :
    ((∃ t, f = .calibrationFailure t) ∧ (s.raise f).phase = .dead ∧ (s.raise f).wk = s.wk) ∨
      ((s.raise f).phase = .idle ∧ (s.raise f).wk = { s.wk with ok := false }) := by
  cases f
  · exact .inl ⟨⟨_, rfl⟩, rfl, rfl⟩
  · exact .inr ⟨rfl, rfl⟩
  · exact .inr ⟨rfl, rfl⟩

/-- The end of a hold moves the phase on when the `Delay` returns, and changes nothing when it does not (R165). -/
theorem State.awaitDelay_cases (s : State) (p : Phase) :
    (s.seq.holding = false ∧ s.awaitDelay p = s.setPhase p) ∨ (s.seq.holding = true ∧ s.awaitDelay p = s) := by
  unfold State.awaitDelay
  cases h : s.seq.holding <;> simp

/-- `Stale()` leaves the state or consumes one clock answer (44_cache_ops.md R132). -/
theorem State.afterStale_cases (s : State) :
    (s.staleDrawsClock = true ∧ s.afterStale = s.afterClock) ∨ (s.staleDrawsClock = false ∧ s.afterStale = s) := by
  unfold State.afterStale
  cases h : s.staleDrawsClock <;> simp

/-- What an accessor can do (R134): respond after its cycle, start a cycle, respond at once, be refused. -/
theorem access_cases (op : Instr) (deliver : State → State) (s : State) :
    (s.resuming op = true ∧ access op deliver s = deliver s) ∨
      (s.resuming op = false ∧ s.phase = .idle ∧ s.stale = true ∧ access op deliver s = s.afterStale.startCycle op) ∨
      (s.resuming op = false ∧ s.phase = .idle ∧ s.stale = false ∧ access op deliver s = deliver s.afterStale) ∨
      (s.resuming op = false ∧ s.phase ≠ .idle ∧ access op deliver s = s.refuse) := by
  unfold access
  cases h1 : s.resuming op <;> cases h2 : s.stale <;> by_cases h3 : s.phase = .idle <;> simp [h3]

theorem resuming_iff (s : State) (op : Instr) : s.resuming op = true ↔ s.seq.pending = some op := by
  simp [State.resuming]

/-- The response of a value accessor (R134). -/
theorem deliverValue_cases (f : Rdg → Nat) (s : State) :
    (s.rdg.valid = true ∧ deliverValue f s = s.finish (.value (f s.rdg))) ∨
      (s.rdg.valid = false ∧ deliverValue f s = s.finish .absent) := by
  unfold deliverValue
  cases h : s.rdg.valid <;> simp

/-- The response of SINCE (R138). -/
theorem deliverSince_cases (s : State) :
    (s.rdg.valid = true ∧ deliverSince s = s.afterClock.finish (.value (s.env.nextClock - s.rdg.ts))) ∨
      (s.rdg.valid = false ∧ deliverSince s = s.finish .absent) := by
  unfold deliverSince
  cases h : s.rdg.valid <;> simp

/-! ### Meanings -/

/-- What CONSTRUCT can do (40_calibrate.md R81). -/
theorem execConstruct_cases (p : Nat) (c : Bool) (w : Nat) (s : State) :
    (s.resuming (.construct p c w) = true ∧ s.diag.lastFault = 1 ∧
        execConstruct p c w s = .next (s.finish .calfail)) ∨
      (s.resuming (.construct p c w) = true ∧ s.diag.lastFault ≠ 1 ∧
        execConstruct p c w s = .next (s.finish .done)) ∨
      (s.resuming (.construct p c w) = false ∧ s.phase = .reset ∧
        execConstruct p c w s = .next (constructStart p c w s)) ∨
      (s.resuming (.construct p c w) = false ∧ s.phase ≠ .reset ∧ execConstruct p c w s = .next s.refuse) := by
  unfold execConstruct constructEnd
  by_cases h1 : s.resuming (.construct p c w) = true
  · by_cases h2 : s.diag.lastFault = 1
    · exact .inl ⟨h1, h2, by rw [if_pos h1, if_pos h2]⟩
    · exact .inr (.inl ⟨h1, h2, by rw [if_pos h1, if_neg h2]⟩)
  · have h1' := Bool.eq_false_iff.2 h1
    by_cases h3 : s.phase = .reset
    · exact .inr (.inr (.inl ⟨h1', h3, by rw [if_neg h1, if_pos h3]⟩))
    · exact .inr (.inr (.inr ⟨h1', h3, by rw [if_neg h1, if_neg h3]⟩))

/-- What CALIBRATE can do (R82, R85). -/
theorem execCalibrate_cases (s : State) :
    ((measuredDuration s = 0 ∨ loopBound s.par.calReads (measuredDuration s) = 0) ∧
        execCalibrate s = .next ((measured s).raise (.calibrationFailure (measuredDuration s)))) ∨
      (measuredDuration s ≠ 0 ∧ loopBound s.par.calReads (measuredDuration s) ≠ 0 ∧
        execCalibrate s =
          .next
            (((measured s).setCal { maxIterations := loopBound s.par.calReads (measuredDuration s) }).setPhase .idle)) := by
  unfold execCalibrate
  by_cases h1 : measuredDuration s = 0
  · exact .inl ⟨.inl h1, by simp [h1]⟩
  · by_cases h2 : loopBound s.par.calReads (measuredDuration s) = 0
    · exact .inl ⟨.inr h2, by simp [h1, h2]⟩
    · exact .inr ⟨h1, h2, by simp [h1, h2]⟩

/-- The fields of the state after CALIBRATE's measurement: only the environment has moved (R87). -/
theorem measured_eq (s : State) : measured s = s.setEnv (measured s).env := rfl

/-- The measured duration is the clock's advance over the reads (R83). -/
theorem measuredDuration_eq (s : State) :
    measuredDuration s = (s.afterClock.discardReads s.par.calReads).env.nextAdvance := by
  simp [measuredDuration, measured, Env.nextClock]

/-- What HANDSHAKE step 1 can do (41_capture.md R92, R165): wait, go on, or begin to wait. -/
theorem execHandshake1_cases (s : State) :
    (s.seq.holding = true ∧ execHandshake1 s = .next s) ∨
      (s.seq.holding = false ∧ s.env.nextDelayReturns = true ∧
        execHandshake1 s =
          .next ((((s.pinMode .output .none).pinWrite .high).requestDelay s.par.tIdleMs).setPhase .hsLow)) ∨
      (s.seq.holding = false ∧ s.env.nextDelayReturns = false ∧
        execHandshake1 s = .next (((s.pinMode .output .none).pinWrite .high).requestDelay s.par.tIdleMs)) := by
  have hn : (((s.pinMode .output .none).pinWrite .high).requestDelay s.par.tIdleMs).seq.holding =
      !s.env.nextDelayReturns := rfl
  unfold execHandshake1 State.awaitDelay
  cases h : s.seq.holding <;> cases hd : s.env.nextDelayReturns <;> simp only [hn, hd] <;> simp

/-- What HANDSHAKE step 2 can do (R93, R165). -/
theorem execHandshake2_cases (s : State) :
    (s.seq.holding = true ∧ execHandshake2 s = .next s) ∨
      (s.seq.holding = false ∧ s.env.nextDelayReturns = true ∧
        execHandshake2 s = .next (((s.pinWrite .low).requestDelay s.par.tStartMs).setPhase .hsRel)) ∨
      (s.seq.holding = false ∧ s.env.nextDelayReturns = false ∧
        execHandshake2 s = .next ((s.pinWrite .low).requestDelay s.par.tStartMs)) := by
  have hn : ((s.pinWrite .low).requestDelay s.par.tStartMs).seq.holding = !s.env.nextDelayReturns := rfl
  unfold execHandshake2 State.awaitDelay
  cases h : s.seq.holding <;> cases hd : s.env.nextDelayReturns <;> simp only [hn, hd] <;> simp

/-- What POLL can do (41_capture.md R95 to R97). -/
theorem execPoll_cases (s : State) :
    (s.seq.polling = false ∧ execPoll s = .next (pollFirst s)) ∨
      (s.seq.polling = true ∧ s.env.nextLevel = s.wk.cur ∧ s.wk.cnt + 1 = s.cal.maxIterations ∧
        execPoll s = .next (pollExit (pollSame s))) ∨
      (s.seq.polling = true ∧ s.env.nextLevel = s.wk.cur ∧ s.wk.cnt + 1 ≠ s.cal.maxIterations ∧
        execPoll s = .next (pollSame s)) ∨
      (s.seq.polling = true ∧ s.env.nextLevel ≠ s.wk.cur ∧ execPoll s = .next (pollEdge s s.env.nextLevel)) := by
  unfold execPoll
  cases h1 : s.seq.polling <;> by_cases h2 : s.env.nextLevel = s.wk.cur <;>
    by_cases h3 : s.wk.cnt + 1 = s.cal.maxIterations <;> simp [h2, h3]

/-- What CLASSIFY can do (42_classify.md R106, R107): the load behind the length test never fails. -/
theorem execClassify_cases (s : State) :
    (s.raw.length < 80 ∧
        execClassify s =
          .next ((s.setWk { s.wk with n := s.raw.length }).raise (.insufficientSamples s.raw.length))) ∨
      (80 ≤ s.raw.length ∧ ∃ t, s.raw.load (s.raw.length - 80) 80 = some t ∧
        execClassify s = .next ((s.setWk (classifyWork { s.wk with n := s.raw.length } t)).setPhase .decode)) := by
  by_cases h : s.raw.length < 80
  · exact .inl ⟨h, by simp [execClassify, Config.tailLen, h]⟩
  · obtain ⟨t, ht⟩ := Memory.load_tail (m := s.raw) (by omega)
    refine .inr ⟨by omega, t, ht, ?_⟩
    simp only [execClassify, Config.tailLen, h, if_false, ht]
    rfl

/-- What DECODE can do (43_decode.md R119, R122). -/
theorem execDecode_cases (s : State) :
    ((decoded s).wk.sum = (decoded s).wk.bytes[4] ∧ execDecode s = .next ((decoded s).setPhase .commit)) ∨
      ((decoded s).wk.sum ≠ (decoded s).wk.bytes[4] ∧
        execDecode s = .next ((decoded s).raise (.checksumMismatch (decoded s).wk.bytes (decoded s).wk.sum))) := by
  unfold execDecode
  by_cases h : (decoded s).wk.sum = (decoded s).wk.bytes[4] <;> simp [h]

/-- What FORCE can do (44_cache_ops.md R139). -/
theorem execForce_cases (s : State) :
    (s.resuming .force = true ∧ s.wk.ok = true ∧ execForce s = .next (s.finish .isTrue)) ∨
      (s.resuming .force = true ∧ s.wk.ok = false ∧ execForce s = .next (s.finish .isFalse)) ∨
      (s.resuming .force = false ∧ s.phase = .idle ∧ execForce s = .next (s.startCycle .force)) ∨
      (s.resuming .force = false ∧ s.phase ≠ .idle ∧ execForce s = .next s.refuse) := by
  unfold execForce
  cases h1 : s.resuming .force <;> cases h2 : s.wk.ok <;> by_cases h3 : s.phase = .idle <;> simp [h3]

/-- What CLOSE can do (R140). -/
theorem execClose_cases (s : State) :
    ((s.phase = .idle ∨ s.phase = .dead) ∧ execClose s = .next ((closed s).respond .done)) ∨
      (s.phase ≠ .idle ∧ s.phase ≠ .dead ∧ execClose s = .next s.refuse) := by
  unfold execClose
  by_cases h1 : s.phase = .idle <;> by_cases h2 : s.phase = .dead <;> simp [h1, h2]

/-! ### The sequencer -/

/-- The host port's decoder finds an instruction or a reserved code (30_encoding.md R73 a). -/
theorem decodeHostCmd_cases (c : HostCmd) :
    (∃ i, decodeHostCmd c = .instr i) ∨ decodeHostCmd c = .reservedOp c.op := by
  unfold decodeHostCmd
  split <;> simp

/-- What the block performs next (10_state.md R19, 44_cache_ops.md R131). -/
theorem fetch_cases (s : State) :
    (∃ i, decodeStage s.phase.code = .instr i ∧ fetch s = .run i s) ∨
      (decodeStage s.phase.code = .restingPhase s.phase.code ∧
        ((∃ i, s.seq.pending = some i ∧ fetch s = .run i s) ∨
          (s.seq.pending = none ∧ s.port.cmds = [] ∧ fetch s = .quiet) ∨
          (s.seq.pending = none ∧ ∃ c rest, s.port.cmds = c :: rest ∧
            ((∃ i, decodeHostCmd c = .instr i ∧ fetch s = .run i s.takeCmd) ∨
              (decodeHostCmd c = .reservedOp c.op ∧ fetch s = .reserved s.takeCmd))))) := by
  have key : (∃ i, decodeStage s.phase.code = .instr i) ∨
      decodeStage s.phase.code = .restingPhase s.phase.code := by
    cases s.phase <;> simp [Phase.code, decodeStage]
  rcases key with ⟨i, hi⟩ | hr
  · exact .inl ⟨i, hi, by simp [fetch, hi]⟩
  · refine .inr ⟨hr, ?_⟩
    cases hp : s.seq.pending with
    | some i => exact .inl ⟨i, rfl, by simp [fetch, hr, hp]⟩
    | none =>
      cases hc : s.port.cmds with
      | nil => exact .inr (.inl ⟨rfl, rfl, by simp [fetch, hr, hp, hc]⟩)
      | cons c rest =>
        refine .inr (.inr ⟨rfl, c, rest, rfl, ?_⟩)
        rcases decodeHostCmd_cases c with ⟨i, hi⟩ | hres
        · exact .inl ⟨i, hi, by simp [fetch, hr, hp, hc, hi]⟩
        · exact .inr ⟨hres, by simp [fetch, hr, hp, hc, hres]⟩

/-- What a step is (R19): hardware reset, an instruction, the refusal of a reserved code, or nothing. -/
theorem step_cases (s : State) :
    (s.env.resetNow = true ∧ step s = .next s.ticked.hardwareReset) ∨
      (s.env.resetNow = false ∧
        ((∃ i t, fetch s.ticked = .run i t ∧ step s = exec i t) ∨
          (∃ t, fetch s.ticked = .reserved t ∧ step s = .next t.refuse) ∨
          (fetch s.ticked = .quiet ∧ step s = .next s.ticked))) := by
  unfold step perform
  cases h : s.env.resetNow
  · cases hf : fetch s.ticked <;> simp
  · simp

end Sys2Proof.Machine
end

