-- ==== Sys2Proof/Laws/PerInstr.lean ====
section
/-! SUPPORT. Statements about every instruction as syntax, one lemma per constructor. Family `RoundTrip`: the decoder of the
instruction's format reads back what the encoder wrote (30_encoding.md R69 to R71). -/

namespace Sys2Proof

/-- A command is read back from its word, whatever its fields. -/
theorem HostCmd.ofWord_toWord (c : HostCmd) : HostCmd.ofWord c.toWord = c := by
  obtain ⟨op, pin, cd, w⟩ := c
  have h1 := op.isLt
  have h2 := w.isLt
  have h3 : cd.toNat ≤ 1 := Bool.toNat_le cd
  simp only [HostCmd.ofWord, HostCmd.toWord, HostCmd.mk.injEq]
  refine ⟨?_, ?_, ?_, ?_⟩
  · apply BitVec.eq_of_toNat_eq
    simp only [BitVec.toNat_ofNat]
    omega
  · omega
  · cases cd
    · simp only [Bool.toNat_false, beq_eq_false_iff_ne, ne_eq]
      omega
    · simp only [Bool.toNat_true, beq_iff_eq]
      omega
  · apply BitVec.eq_of_toNat_eq
    simp only [BitVec.toNat_ofNat]
    omega

namespace Laws.RoundTrip

/-- Decoding the encoded instruction gives it back. -/
def Statement (i : Instr) : Prop := i.wellFormed = true → decodeWord (encode i).1 (encode i).2 = .instr i

theorem construct (pin : Nat) (cacheDisabled : Bool) (windowS : Nat) :
    Statement (.construct pin cacheDisabled windowS) := by
  intro h
  have hw : windowS < 2 ^ 32 := by simpa [Instr.wellFormed] using h
  simp only [encode, decodeWord, HostCmd.ofWord_toWord, decodeHostCmd, BitVec.toNat_ofNat, Nat.mod_eq_of_lt hw]
  rfl

theorem tempc : Statement .tempc := fun _ => by decide

theorem tempf : Statement .tempf := fun _ => by decide

theorem humid : Statement .humid := fun _ => by decide

theorem since : Statement .since := fun _ => by decide

theorem force : Statement .force := fun _ => by decide

theorem close : Statement .close := fun _ => by decide

theorem calibrate : Statement .calibrate := fun _ => by decide

theorem handshake1 : Statement .handshake1 := fun _ => by decide

theorem handshake2 : Statement .handshake2 := fun _ => by decide

theorem handshake3 : Statement .handshake3 := fun _ => by decide

theorem poll : Statement .poll := fun _ => by decide

theorem classify : Statement .classify := fun _ => by decide

theorem decode : Statement .decode := fun _ => by decide

theorem commit : Statement .commit := fun _ => by decide

end Laws.RoundTrip

end Sys2Proof
end

