-- ==== Sys2Proof/Tests/Slice0.lean ====
section
/-! SUPPORT. Tests on small states, expected values from 95_test_vectors.md or from the code tables, and for each obligation with
hypotheses a witness that meets them. -/

namespace Sys2Proof.Tests

open Sys2Proof Sys2Proof.Machine

/-! ### Builders -/

/-- The state an execution ends in (`State.reset` for a stop, which no test expects). -/
def after (o : Host.Outcome State Fault Refusal) : State :=
  match o with
  | .next t => t
  | .fault _ => State.reset
  | .refused _ => State.reset

/-- 40 bits written as a binary number, the first transmitted bit leftmost. -/
def frame (n : Nat) : Vector Bool 40 := build fun j => n.testBit (39 - j)

/-- 45, 0, 23, 0, 68 (V-DEC-1, V-CLS-3). -/
def frame1 : Vector Bool 40 := frame 0b0010110100000000000101110000000001000100

/-- 60, 5, 21, 7, 93 (V-DEC-9). -/
def frame9 : Vector Bool 40 := frame 0b0011110000000101000101010000011101011101

/-- 44, 0, 23, 0, 68 (V-DEC-10). -/
def frame10 : Vector Bool 40 := frame 0b0010110000000000000101110000000001000100

/-- An idle instance with the cache of 95_test_vectors.md section 2.5: window 2 s, `RDG = (1, 450, 230, 1 000 000 000)`. -/
def idle : State :=
  { State.reset with
    phase := .idle
    cfg := { pin := 4, cacheDisabled := false, windowS := 2 }
    cal := { maxIterations := 4 }
    rdg := { valid := true, hum10 := 450, temp10 := 230, ts := 1000000000 }
    pin := { dir := some .input, pull := some .up, out := some .low, owned := true }
    env := { State.reset.env with now := 1000000000, advances := [500000000, 400000000, 1000] } }

/-- `idle` in another phase, inside FORCE. -/
def inForce (p : Phase) : State := { idle with phase := p, seq := { pending := some .force, polling := false, holding := false } }

/-- `idle` with operations at the port. -/
def asked (cmds : List HostCmd) : State := { idle with port := { cmds := cmds, rsps := [] } }

/-- A block in `RESET` with CONSTRUCT at the port whose clock answers 0, then `t`. -/
def fresh (t : Nat) : State :=
  { State.reset with
    port := { cmds := [⟨0, 4, false, 2⟩], rsps := [] }
    par := { calReads := 10, tIdleMs := 50, tStartMs := 20 }
    env := { State.reset.env with advances := [0, t] } }

/-- Inside POLL's loop (V-CAP-1, after read 2, with the given next sample). -/
def looping (cnt : Nat) (next : Level) : State :=
  { inForce .poll with
    wk := { Work.reset with cur := .high, cnt := cnt }
    raw := [7]
    seq := { pending := some .force, polling := true, holding := false }
    env := { idle.env with levels := [next] } }

/-- At CLASSIFY with a given buffer. -/
def classifying (raw : List Nat) : State := { inForce .classify with raw := raw }

/-- At DECODE with given bits. -/
def decoding (bits : Vector Bool 40) : State := { inForce .decode with wk := { Work.reset with bits := bits } }

/-- At COMMIT with an accepted frame. -/
def committing (bits : Vector Bool 40) : State :=
  { inForce .commit with
    wk := { Work.reset with bits := bits, bytes := packBytes bits, sum := checksum (packBytes bits) } }

/-! ### WellFormed -/

theorem test_window_of_33_bits_is_ill_formed : (Instr.construct 0 false (2 ^ 32)).wellFormed = false := by decide

theorem test_window_of_32_bits_is_well_formed : (Instr.construct 0 false (2 ^ 32 - 1)).wellFormed = true := by decide

/-! ### Decoding: the words of R70 and R18, written out -/

theorem test_decode_construct :
    decodeHostCmd ⟨0b0000, 17, true, 0⟩ = .instr (.construct 17 true 0) ∧
      decodeWord .hostCmd (0b0000 + 0b1 * 2 ^ 4 + 5 * 2 ^ 5 + 17 * 2 ^ 37) = .instr (.construct 17 true 5) := by decide

theorem test_decode_tempc : decodeWord .hostCmd 0b0001 = .instr .tempc := by decide

theorem test_decode_tempf : decodeWord .hostCmd 0b0010 = .instr .tempf := by decide

theorem test_decode_humid : decodeWord .hostCmd 0b0011 = .instr .humid := by decide

theorem test_decode_since : decodeWord .hostCmd 0b0100 = .instr .since := by decide

theorem test_decode_force : decodeWord .hostCmd 0b0101 = .instr .force := by decide

theorem test_decode_close : decodeWord .hostCmd 0b0110 = .instr .close := by decide

theorem test_decode_reserved_ops :
    decodeWord .hostCmd 0b0111 = .reservedOp 0b0111 ∧ decodeWord .hostCmd 0b1111 = .reservedOp 0b1111 := by decide

theorem test_decode_calibrate : decodeWord .stage 0b0001 = .instr .calibrate := by decide

theorem test_decode_handshake :
    decodeWord .stage 0b0100 = .instr .handshake1 ∧ decodeWord .stage 0b0101 = .instr .handshake2 ∧
      decodeWord .stage 0b0110 = .instr .handshake3 := by decide

theorem test_decode_poll : decodeWord .stage 0b0111 = .instr .poll := by decide

theorem test_decode_classify : decodeWord .stage 0b1000 = .instr .classify := by decide

theorem test_decode_decode : decodeWord .stage 0b1001 = .instr .decode := by decide

theorem test_decode_commit : decodeWord .stage 0b1010 = .instr .commit := by decide

theorem test_decode_resting_and_unused_phases :
    decodeWord .stage 0b0000 = .restingPhase 0b0000 ∧ decodeWord .stage 0b0010 = .restingPhase 0b0010 ∧
      decodeWord .stage 0b0011 = .restingPhase 0b0011 ∧ decodeWord .stage 0b1011 = .restingPhase 0b1011 ∧
      decodeWord .stage 0b1100 = .unusedPhase 0b1100 := by decide

/-- The table's numbers: a word that both formats have is read as the host's (log 10). -/
theorem test_table_words :
    decodeTableWord 8 0b0001 = some .tempc ∧ decodeTableWord 8 0b0110 = some .close ∧
      decodeTableWord 8 0b0111 = some .poll ∧ decodeTableWord 8 0b1010 = some .commit ∧
      decodeTableWord 8 0b1011 = none := by decide

/-- The first step after reset performs the word placed (V-REF-1 for TEMPC; POLL's first sample empties the buffer). -/
theorem test_placed_words :
    (after (step (State.reset.withFetchWord 8 0b0001))).port.rsps = [.refused] ∧
      (after (step (State.reset.withFetchWord 8 0b0000))).phase = .cal ∧
      (after (step (State.reset.withFetchWord 8 0b0111))).seq.polling = true := by decide

/-! ### Instructions -/

/-- P1, operation 1: `CFG = (4, 0, 2)`, DONE. V-CAL-8 scaled to 10 reads: `T = 25 000` gives 60. -/
theorem test_construct_done :
    (after (stepN 3 (fresh 25000))).phase = .idle ∧ (after (stepN 3 (fresh 25000))).cal.maxIterations = 60 ∧
      (after (stepN 3 (fresh 25000))).cfg = { pin := 4, cacheDisabled := false, windowS := 2 } ∧
      (after (stepN 3 (fresh 25000))).port.rsps = [.done] := by decide

/-- P4: the second clock answer equals the first: CALFAIL, `DEAD`, the pin owned. -/
theorem test_construct_calfail :
    (after (stepN 3 (fresh 0))).phase = .dead ∧ (after (stepN 3 (fresh 0))).port.rsps = [.calfail] ∧
      (after (stepN 3 (fresh 0))).pin.owned = true := by decide

/-- V-CAL-1, 3, 4, 5, 6, 7, 8, 9. -/
theorem test_calibrate_bounds :
    loopBound 10000 25000000 = 60 ∧ loopBound 10000 1500000000 = 1 ∧ loopBound 10000 1500000001 = 0 ∧
      loopBound 10000 1499999999 = 1 ∧ loopBound 10000 10000 = 150000 ∧ loopBound 10000 9999 = 150015 ∧
      loopBound 1 2500 = 60 ∧ loopBound 10000 26000000 = 57 := by decide

/-- R82, R85: 10 reads consumed; `T` above `INTERVAL_NS · CAL_READS` is CalibrationFailure, CAL not written. -/
theorem test_calibrate_failure :
    (after (execCalibrate (fresh 1500001))).phase = .dead ∧ (after (execCalibrate (fresh 1500001))).diag.lastFault = 1 ∧
      (after (execCalibrate (fresh 1500001))).env.pinReads = 10 ∧
      (after (execCalibrate (fresh 1500000))).cal.maxIterations = 1 := by decide

/-- P1, step 2: the calls of the handshake. -/
theorem test_handshake_calls :
    (after (stepN 3 (inForce .hsHigh))).env.calls =
      [.setMode 4 .output .none, .write 4 .high, .delay 50, .write 4 .low, .delay 20, .setMode 4 .input .up] := by decide

/-- R92: the pin during the first hold; a hold that has begun issues nothing again (R165). -/
theorem test_handshake1_holds :
    let s := { inForce .hsHigh with env := { idle.env with delays := [false, true] } }
    (after (execHandshake1 s)).pin.out = some .high ∧ (after (execHandshake1 s)).phase = .hsHigh ∧
      after (execHandshake1 (after (execHandshake1 s))) = after (execHandshake1 s) := by decide

/-- R165, U15: the first `Delay` returns, the second does not. -/
theorem test_second_delay_hangs :
    let s := { inForce .hsHigh with env := { idle.env with delays := [true, false, true] } }
    (after (stepN 1 s)).phase = .hsLow ∧ (after (stepN 5 s)).phase = .hsLow ∧
      (after (stepN 5 s)).env.calls =
        [.setMode 4 .output .none, .write 4 .high, .delay 50, .write 4 .low, .delay 20] := by decide

/-- R93, R94: LOW, then released as an input pulled up, `out` kept. -/
theorem test_handshake2_handshake3 :
    (after (execHandshake2 (inForce .hsLow))).pin.out = some .low ∧
      (after (execHandshake3 (inForce .hsRel))).pin = { dir := some .input, pull := some .up, out := some .low, owned := true } ∧
      (after (execHandshake3 (inForce .hsRel))).phase = .poll := by decide

/-- V-CAP-1: 13 reads, `raw = [1, 2, 0, 1]`. -/
theorem test_poll_capture :
    let s := { inForce .poll with
      env := { idle.env with
        levels := [.high, .high, .low, .low, .low, .high, .low, .low, .high, .high, .high, .high, .high] } }
    (after (stepN 13 s)).raw = [1, 2, 0, 1] ∧ (after (stepN 13 s)).phase = .classify ∧
      (after (stepN 12 s)).phase = .poll ∧ (after (stepN 13 s)).diag.lastLen = 4 ∧ (after (stepN 13 s)).diag.cto = false := by
  decide

/-- V-CAP-2: five equal samples, `raw = []`, `cnt = 4`, `DIAG.cto = 1`. -/
theorem test_poll_silent_line :
    let s := { inForce .poll with env := { idle.env with levels := [.high, .high, .high, .high, .high] } }
    (after (stepN 5 s)).raw = [] ∧ (after (stepN 5 s)).wk.cnt = 4 ∧ (after (stepN 5 s)).diag.cto = true ∧
      (after (stepN 5 s)).env.pinReads = 5 := by decide

/-- V-CLS-5: the pair alignment swapped; `A` is the data, `VA = 24 300`, `VB = 39`, `thr = 401`. -/
theorem test_classify_swapped :
    let t := after (execClassify (classifying ([3, 16, 16] ++ pairTail 10 5 14 frame1 ++ [11])))
    t.wk.sel = .a ∧ t.wk.va = 24300 ∧ t.wk.vb = 39 ∧ t.wk.thr = 401 ∧ t.wk.bits = frame1 ∧ t.wk.n = 84 := by decide +kernel

/-- V-CLS-3, V-CLS-8, V-CLS-1: markers of 10; a run equal to the marker is 0, one above is 1; 79 entries are too few. -/
theorem test_classify_threshold :
    (after (execClassify (classifying (pairTail 10 5 14 frame1)))).wk.bits = frame1 ∧
      (after (execClassify (classifying (pairTail 10 5 14 frame1)))).wk.vb = 24300 ∧
      (after (execClassify (classifying (pairTail 10 10 11 (frame 0x5555555555))))).wk.bits = frame 0x5555555555 ∧
      (after (execClassify (classifying (pairTail 10 5 14 frame1).tail))).diag.lastFault = 3 := by decide +kernel

/-- V-DEC-9: 60, 5, 21, 7, 93 accepted; V-DEC-10: one bit of V-DEC-1 flipped, ChecksumMismatch. -/
theorem test_decode_packs_and_checks :
    (after (execDecode (decoding frame9))).wk.bytes.toList = [60, 5, 21, 7, 93] ∧
      (after (execDecode (decoding frame9))).phase = .commit ∧
      (after (execDecode (decoding frame10))).phase = .idle ∧ (after (execDecode (decoding frame10))).wk.sum = 67 ∧
      (after (execDecode (decoding frame10))).diag.lastFault = 4 := by decide +kernel

/-- V-DEC-4, V-DEC-5, V-DEC-7, V-DEC-8: the carry of the sum is dropped. -/
theorem test_checksum_wraps :
    checksum ⟨#[255, 255, 255, 255, 252], rfl⟩ = 252 ∧ checksum ⟨#[128, 128, 0, 0, 0], rfl⟩ = 0 ∧
      checksum ⟨#[200, 100, 50, 25, 119], rfl⟩ = 119 := by decide

/-- V-DEC-9: `hum10 = 605`, `temp10 = 217`; the timestamp is the clock answer. -/
theorem test_commit :
    (after (execCommit (committing frame9))).rdg = { valid := true, hum10 := 605, temp10 := 217, ts := 1500000000 } ∧
      (after (execCommit (committing frame9))).wk.ok = true := by decide +kernel

/-- V-DEC-4: the largest values, 2805; `f100 = 53 690`. V-DEC-11: a fraction byte above 9 is used as it is. -/
theorem test_values :
    humidityOf ⟨#[255, 255, 255, 255, 252], rfl⟩ = 2805 ∧ temperatureOf ⟨#[60, 25, 21, 255, 105], rfl⟩ = 465 ∧
      Rdg.fahrenheit100 { valid := true, hum10 := 0, temp10 := 2805, ts := 0 } = 53690 := by decide

/-- P1, operations 3 and 4, on the fresh cache: VALUE(230), VALUE(7340); HUMID gives VALUE(450). -/
theorem test_accessors_fresh :
    (after (execTempc idle)).port.rsps = [.value 230] ∧ (after (execTempf idle)).port.rsps = [.value 7340] ∧
      (after (execHumid idle)).port.rsps = [.value 450] ∧ (after (execHumid idle)).env.now = 1500000000 := by decide

/-- V-CCH-1 and V-CCH-2: the elapsed time one nanosecond below the window, and at it. -/
theorem test_stale_at_the_window :
    (after (execTempc { idle with env := { idle.env with advances := [1999999999] } })).port.rsps = [.value 230] ∧
      (after (execTempc { idle with env := { idle.env with advances := [2000000000] } })).phase = .hsHigh := by decide

/-- P1, operation 5: two clock answers, the elapsed time at the second. -/
theorem test_since :
    (after (execSince { idle with env := { idle.env with advances := [1500000000, 1000] } })).port.rsps =
      [.value 1500001000] := by decide

/-- P2, operation 4: after a failed cycle with no Reading, ABSENT and no clock answer. -/
theorem test_since_absent :
    let s := { idle with
      rdg := { idle.rdg with valid := false }
      seq := { pending := some .since, polling := false, holding := false } }
    (after (execSince s)).port.rsps = [.absent] ∧ (after (execSince s)).env.clockReads = 0 := by decide

/-- FORCE starts a cycle with a fresh cache too, and reports the outcome (P2 operation 2, P3 operation 4). -/
theorem test_force :
    (after (execForce idle)).phase = .hsHigh ∧ (after (execForce (inForce .idle))).port.rsps = [.isFalse] ∧
      (after (execForce { inForce .idle with wk := { Work.reset with ok := true } })).port.rsps = [.isTrue] := by decide

/-- V-REF-4, V-REF-6. -/
theorem test_close :
    (after (execClose { idle with phase := .dead })).phase = .closed ∧
      (after (execClose { idle with phase := .dead })).port.rsps = [.done] ∧
      (after (execClose { idle with phase := .closed })).port.rsps = [.refused] := by decide

/-- V-REF-2, V-REF-3, V-REF-5: refused, nothing else changes. -/
theorem test_refusals :
    after (execConstruct 1 true 9 idle) = { idle with port := { cmds := [], rsps := [.refused] } } ∧
      (after (execForce { idle with phase := .dead })).port.rsps = [.refused] ∧
      (after (step (asked [HostCmd.plain 7]))).port = { cmds := [], rsps := [.refused] } := by decide

/-- P2 operations 2 and 3 on a line that never moves: FORCE answers FALSE, the cached Reading stays, the mark is set. -/
theorem test_silent_cycle :
    let s := { asked [HostCmd.plain 5] with env := { idle.env with levels := [.high, .high, .high, .high, .high] } }
    (after (stepN 11 s)).port.rsps = [.isFalse] ∧ (after (stepN 11 s)).rdg = idle.rdg ∧
      (after (stepN 11 s)).diag.cto = true ∧ (after (stepN 11 s)).diag.lastFault = 3 := by decide

/-- R178: reset inside a read cycle; the pin stays driven, no response. -/
theorem test_reset_in_a_cycle :
    let s := { inForce .hsLow with env := { idle.env with resets := [0] } }
    (after (step s)).phase = .reset ∧ (after (step s)).rdg.valid = false ∧ (after (step s)).pin.dir = some .input ∧
      (after (step s)).pin.owned = false ∧ (after (step s)).port.rsps = [] := by decide

/-! ### Witnesses: the hypotheses of each obligation met together, each clause at a boundary -/

theorem witness_DecodeOfEncodeIsIdentity :
    (Instr.construct 17 true (2 ^ 32 - 1)).wellFormed = true ∧ (Instr.construct 0 false 0).wellFormed = true ∧
      Instr.commit.wellFormed = true := by decide

theorem witness_DecodedInstructionsAreWellFormed :
    decodeWord .hostCmd (2 ^ 37 - 2 ^ 5) = .instr (.construct 0 false (2 ^ 32 - 1)) ∧
      decodeWord .stage 10 = .instr .commit := by decide

theorem witness_ReservedOperationCodes :
    decodeHostCmd (.plain 7) = .reservedOp 7 ∧ decodeHostCmd (.plain 15) = .reservedOp 15 ∧
      decodeHostCmd (.plain 6) = .instr .close := by decide

theorem witness_PhaseCodesSelectStages : 12 ≤ (12 : BitVec 4).toNat ∧ 12 ≤ (15 : BitVec 4).toNat := by decide

/-- The clauses: a stage; an operation in progress; one at the port; a reserved code; none; a reset one step away. -/
theorem witness_StepPerformsWhatIsSelected :
    ((inForce .poll).env.resetNow = false ∧ decodeStage (inForce .poll).phase.code = .instr .poll) ∧
      ((inForce .idle).env.resetNow = false ∧
        decodeStage (inForce .idle).phase.code = .restingPhase (inForce .idle).phase.code ∧
        (inForce .idle).seq.pending = some .force) ∧
      ((asked [.plain 6]).env.resetNow = false ∧ (asked [.plain 6]).seq.pending = none ∧
        (asked [.plain 6]).port.cmds = HostCmd.plain 6 :: [] ∧ decodeHostCmd (.plain 6) = .instr .close) ∧
      ((asked [.plain 7]).port.cmds = HostCmd.plain 7 :: [] ∧ decodeHostCmd (.plain 7) = .reservedOp (HostCmd.plain 7).op) ∧
      (idle.seq.pending = none ∧ idle.port.cmds = [] ∧ idle.env.resets = []) ∧
      (({ idle.env with resets := [1] } : Env).resetNow = false ∧ ({ idle.env with resets := [1] } : Env).resets = (0 + 1) :: []) := by
  decide

theorem witness_PlacedWordIsPerformed :
    decodeTableWord 8 0 = some (.construct 0 false 0) ∧ decodeTableWord 8 6 = some .close ∧
      decodeTableWord 8 7 = some .poll ∧ decodeTableWord 8 10 = some .commit := by decide

theorem witness_HardwareResetFromAnyState :
    ({ inForce .poll with env := { idle.env with resets := [0, 5] } } : State).env.resets = 0 :: [5] := by decide

theorem witness_WrongPhaseIsRefused :
    (idle.phase ≠ .reset ∧ idle.seq.pending ≠ some (.construct 4 false 2)) ∧
      (Instr.runsCycle .since = true ∧ State.reset.phase ≠ .idle ∧ State.reset.seq.pending ≠ some .since) ∧
      (State.reset.phase ≠ .idle ∧ State.reset.phase ≠ .dead) := by decide

theorem witness_ConstructConfiguresTheInstance :
    State.reset.phase = .reset ∧ State.reset.seq.pending ≠ some (.construct 4 false (2 ^ 32 - 1)) ∧
      2 ^ 32 - 1 < 2 ^ 32 := by decide

/-- With each outcome: `T` at 1, at the largest success, one above it, and 0. -/
theorem witness_ConstructRunsToItsResponse :
    (∀ T ∈ [1, 1500000, 1500001, 0], (fresh T).phase = .reset ∧ (fresh T).seq.pending = none ∧ (fresh T).env.resets = [] ∧
        (fresh T).port.cmds = ⟨0, 4, false, 2⟩ :: [] ∧
        ((fresh T).afterClock.discardReads (fresh T).par.calReads).env.nextAdvance = T) ∧
      150000 * (fresh 0).par.calReads = 1500000 := by decide

/-- Both responses: with CalibrationFailure recorded and without. -/
theorem witness_ConstructReportsTheCalibration :
    (after (stepN 2 (fresh 0))).seq.pending = some (.construct 4 false 2) ∧ (after (stepN 2 (fresh 0))).diag.lastFault = 1 ∧
      (after (stepN 2 (fresh 1))).seq.pending = some (.construct 4 false 2) ∧
      (after (stepN 2 (fresh 1))).diag.lastFault = 0 := by decide

theorem witness_CalibrateWritesTheFloor :
    ∀ T ∈ [1, 1500000], T = ((fresh T).afterClock.discardReads (fresh T).par.calReads).env.nextAdvance ∧ 0 < T ∧
      T ≤ 150000 * (fresh T).par.calReads := by decide

/-- `T` on each side of both limits; the fault is taken in the first and the last. -/
theorem witness_CalibrationFailureExactly :
    (∀ T ∈ [0, 1, 1500000, 1500001], T = ((fresh T).afterClock.discardReads (fresh T).par.calReads).env.nextAdvance) ∧
      (after (execCalibrate (fresh 0))).phase = .dead ∧ (after (execCalibrate (fresh 1))).phase = .idle ∧
      (after (execCalibrate (fresh 1500000))).phase = .idle ∧ (after (execCalibrate (fresh 1500001))).phase = .dead := by
  decide

theorem witness_CalibratesOncePerReset :
    (∃ t, exec .calibrate (fresh 1) = .next t) ∧
      (∃ t, exec (.construct 4 false 2) State.reset = .next t ∧ t.phase = .cal) ∧
      (∃ t, exec .tempc State.reset = .next t ∧ t.phase = .reset) :=
  ⟨⟨after (exec .calibrate (fresh 1)), rfl⟩, ⟨_, rfl, rfl⟩, ⟨_, rfl, rfl⟩⟩

theorem witness_HandshakeStepsDriveThePin :
    (inForce .hsHigh).env.nextDelayReturns = true ∧ (inForce .hsHigh).seq.holding = false := by decide

/-- With no answer scripted, and with the two answers that say so. -/
theorem witness_HandshakeCallsInOrder :
    ∀ ds ∈ [[], [true, true, false]],
      let s := { inForce .hsHigh with env := { idle.env with delays := ds } }
      s.phase = .hsHigh ∧ s.seq.holding = false ∧ (∀ b ∈ s.env.delays.take 2, b = true) ∧ s.env.resets = [] := by decide

/-- The three clauses: the first hold, the second, the second after the first has returned. -/
theorem witness_UnreturnedDelayHangs :
    let held := fun (p : Phase) (ds : List Bool) => ({ inForce p with env := { idle.env with delays := ds } } : State)
    (∀ s ∈ [held .hsHigh [false], held .hsLow [false], held .hsHigh [true, false]],
        s.seq.holding = false ∧ s.env.resets = []) ∧
      ((held .hsHigh [false]).phase = .hsHigh ∧ (held .hsHigh [false]).env.nextDelayReturns = false) ∧
      ((held .hsLow [false]).phase = .hsLow ∧ (held .hsLow [false]).env.nextDelayReturns = false) ∧
      ((held .hsHigh [true, false]).phase = .hsHigh ∧
        (held .hsHigh [true, false]).env.delays = true :: false :: []) := by decide

theorem witness_PollFirstSampleInitialises : (inForce .poll).seq.polling = false := by decide

/-- The clauses: below the bound, at the bound, an edge. -/
theorem witness_PollStepCountsOrAppends :
    (looping 2 .high).seq.polling = true ∧
      ((looping 2 .high).env.nextLevel = (looping 2 .high).wk.cur ∧
        (looping 2 .high).wk.cnt + 1 ≠ (looping 2 .high).cal.maxIterations) ∧
      ((looping 3 .high).env.nextLevel = (looping 3 .high).wk.cur ∧
        (looping 3 .high).wk.cnt + 1 = (looping 3 .high).cal.maxIterations) ∧
      (looping 3 .low).env.nextLevel ≠ (looping 3 .low).wk.cur := by decide

/-- V-CAP-1; and the run of exactly `max_iterations` samples of V-CAP-4. -/
theorem witness_CaptureRecordsTheRuns :
    ∀ runs ∈ [[1, 2, 0, 1], [3], []],
      let s := { inForce .poll with env := { idle.env with levels := samplesOf .high (runs ++ [4]) ++ [Level.low] } }
      s.phase = .poll ∧ s.seq.polling = false ∧ s.env.resets = [] ∧ 1 ≤ s.cal.maxIterations ∧
        (∀ r ∈ runs, r < s.cal.maxIterations) ∧
        s.env.levels = samplesOf .high (runs ++ [s.cal.maxIterations]) ++ [.low] := by decide

/-- An empty capture and one of 79 entries. -/
theorem witness_ShortCaptureIsInsufficient :
    ∀ runs ∈ [[], List.replicate 79 0],
      let s := { inForce .poll with env := { idle.env with levels := samplesOf .high (runs ++ [4]) ++ [] } }
      s.phase = .poll ∧ s.seq.polling = false ∧ s.env.resets = [] ∧ 1 ≤ s.cal.maxIterations ∧
        (∀ r ∈ runs, r < s.cal.maxIterations) ∧ runs.length < 80 ∧
        s.env.levels = samplesOf .high (runs ++ [s.cal.maxIterations]) ++ [] := by decide +kernel

/-- Alternating samples (V-CAP-5, program P5). -/
theorem witness_UnsettledLineNeverEndsPoll :
    let s := { inForce .poll with
      cal := { maxIterations := 3 }
      env := { idle.env with levels := [.low, .high, .low, .high, .low, .high, .low, .high] } }
    s.phase = .poll ∧ s.seq.polling = false ∧ s.env.resets = [] ∧ 1 ≤ s.cal.maxIterations ∧ 8 ≤ s.env.levels.length ∧
      ∀ i, i + s.cal.maxIterations < 8 → ∃ j, j ≤ s.cal.maxIterations ∧ s.env.levels[i + j]? ≠ s.env.levels[i]? := by
  refine ⟨rfl, rfl, rfl, by decide, by decide, fun i hi => ⟨1, by decide, ?_⟩⟩
  have : i < 5 := by change i + 3 < 8 at hi; omega
  interval_cases i <;> decide

/-- 79 entries, and 80. -/
theorem witness_ShortRawRaisesInsufficientSamples :
    (classifying (List.replicate 79 5)).raw.length < 80 ∧ 80 ≤ (classifying (List.replicate 80 5)).raw.length := by decide

/-- 80 entries; `A` selected (V-CLS-5), and `B` (V-CLS-3), each bit value occurring. -/
theorem witness_ClassifyComputesItsRegisters :
    80 ≤ (classifying (pairTail 10 5 14 frame1)).raw.length ∧
      ¬ (after (execClassify (classifying (pairTail 10 5 14 frame1)))).wk.va >
        (after (execClassify (classifying (pairTail 10 5 14 frame1)))).wk.vb ∧
      80 ≤ (classifying (pairTail 10 5 14 frame1 ++ [11])).raw.length ∧
      (after (execClassify (classifying (pairTail 10 5 14 frame1 ++ [11])))).wk.va >
        (after (execClassify (classifying (pairTail 10 5 14 frame1 ++ [11])))).wk.vb := by decide +kernel

theorem witness_PreambleIsIgnored :
    80 ≤ (pairTail 10 5 14 frame1).length ∧ 80 ≤ ([3, 16, 16] ++ pairTail 10 5 14 frame1).length ∧
      ∀ k, k < 80 → Memory.read (pairTail 10 5 14 frame1) ((pairTail 10 5 14 frame1).length - 80 + k) =
        Memory.read ([3, 16, 16] ++ pairTail 10 5 14 frame1) (([3, 16, 16] ++ pairTail 10 5 14 frame1).length - 80 + k) := by
  decide +kernel

/-- The tail of `frame1` with markers 10 and data runs `short` and 14, markers first or data runs first. -/
def tail1 (short : Nat) (dataFirst : Bool) : Vector Nat 80 :=
  build fun k => if (k.val % 2 == 0) = dataFirst then (if frame1[k.val / 2] then 14 else short) else 10

theorem witness_SwappedRolesGiveTheSameBits :
    (∀ (j : Nat) (h : j < 40), (tail1 5 true)[2 * j] = (tail1 5 false)[2 * j + 1] ∧
        (tail1 5 true)[2 * j + 1] = (tail1 5 false)[2 * j]) ∧
      dispersion (subA (tail1 5 false)) ≠ dispersion (subB (tail1 5 false)) := by decide +kernel

/-- V-CLS-7: one more at every entry; three times every entry. -/
theorem witness_OffsetAndScaleLeaveTheBits :
    (∀ (k : Nat) (h : k < 80), (build fun k : Fin 80 => (tail1 5 false)[k] + 1)[k] = (tail1 5 false)[k] + 1) ∧
      0 < 3 ∧ ∀ (k : Nat) (h : k < 80), (build fun k : Fin 80 => 3 * (tail1 5 false)[k])[k] = 3 * (tail1 5 false)[k] := by
  decide +kernel

/-- Both alignments, at `short < m` and at the boundary `short = m`. -/
theorem witness_TwoLevelTailIsReadExactly :
    (∃ (j : Nat) (h : j < 40), frame1[j] = true) ∧ (∃ (j : Nat) (h : j < 40), frame1[j] = false) ∧
      ∀ short ∈ [5, 10], short ≤ 10 ∧ 10 < 14 ∧
        (∀ (j : Nat) (h : j < 40), (tail1 short false)[2 * j] = 10 ∧
          (tail1 short false)[2 * j + 1] = if frame1[j] then 14 else short) ∧
        (∀ (j : Nat) (h : j < 40), (tail1 short true)[2 * j + 1] = 10 ∧
          (tail1 short true)[2 * j] = if frame1[j] then 14 else short) :=
  ⟨⟨2, by decide, by decide +kernel⟩, ⟨0, by decide, by decide +kernel⟩, by decide +kernel⟩

/-- V-CLS-9. -/
theorem witness_FeaturelessTailIsAnAllZeroReading :
    let s := classifying (List.replicate 80 7)
    s.phase = .classify ∧ s.env.resets = [] ∧ 80 ≤ s.raw.length ∧
      ∀ k, k < 80 → s.raw.read (s.raw.length - 80 + k) = some 7 := by decide +kernel

/-- DECODE accepts `frame1` and not `frame10`: both cases of the check occur. -/
theorem witness_DecodePacksAndChecks :
    (after (execDecode (decoding frame1))).wk.sum = (after (execDecode (decoding frame1))).wk.bytes[4] ∧
      (after (execDecode (decoding frame10))).wk.sum ≠ (after (execDecode (decoding frame10))).wk.bytes[4] := by
  decide +kernel

/-- V-DEC-10 is V-DEC-1 with bit 7 flipped. -/
theorem witness_SingleBitErrorIsRejected :
    (∃ t, exec .decode (decoding frame1) = .next t ∧ t.phase = .commit) ∧
      (decoding frame10).wk.bits = (decoding frame1).wk.bits.set 7 (!(decoding frame1).wk.bits[7]) := by
  refine ⟨⟨(decoded (decoding frame1)).setPhase .commit, ?_, rfl⟩, by decide +kernel⟩
  have h : (decoded (decoding frame1)).wk.sum = (decoded (decoding frame1)).wk.bytes[4] := by decide +kernel
  simp only [exec, execDecode, h, if_true]

/-- The three clauses; the third one nanosecond below the window and at it. -/
theorem witness_StalenessCheck :
    State.reset.rdg.valid = false ∧ ({ idle with cfg := ⟨4, true, 2⟩ } : State).cfg.cacheDisabled = true ∧
      (idle.rdg.valid = true ∧ idle.cfg.cacheDisabled = false) ∧
      ({ idle with env := { idle.env with advances := [1999999999] } } : State).stale = false ∧
      ({ idle with env := { idle.env with advances := [2000000000] } } : State).stale = true := by decide

theorem witness_FreshAccessorsAnswerAtOnce :
    idle.phase = .idle ∧ idle.seq.pending = none ∧ idle.stale = false := by decide

/-- Each cause of staleness: no Reading, caching disabled, the window elapsed. -/
theorem witness_StaleAccessorsStartOneCycle :
    Instr.runsCycle .tempc = true ∧ Instr.tempc ≠ .force ∧
      ∀ s ∈ [{ idle with rdg := { idle.rdg with valid := false } }, { idle with cfg := ⟨4, true, 2⟩ },
          { idle with env := { idle.env with advances := [2000000000] } }],
        s.phase = .idle ∧ s.seq.pending ≠ some .tempc ∧ s.stale = true := by decide

/-- At the start and back from the cycle, with and without a Reading. -/
theorem witness_DisabledCacheAlwaysRunsACycle :
    let s := { idle with cfg := ⟨4, true, 2⟩ }
    let u := { s with seq := { pending := some .humid, polling := false, holding := false } }
    Instr.runsCycle .humid = true ∧ s.phase = .idle ∧ s.cfg.cacheDisabled = true ∧ s.seq.pending ≠ some .humid ∧
      u.phase = .idle ∧ u.cfg.cacheDisabled = true ∧ u.seq.pending = some .humid ∧ Instr.humid ≠ .force ∧
      u.rdg.valid = true ∧ ({ u with rdg := { u.rdg with valid := false } } : State).rdg.valid = false := by decide

theorem witness_AccessorsAnswerAfterTheCycle :
    ∀ i ∈ [Instr.tempc, .tempf, .humid],
      ({ idle with seq := { pending := some i, polling := false, holding := false } } : State).seq.pending = some i := by
  decide

/-- The three clauses: a fresh Reading; after the cycle with a Reading; after the cycle without. -/
theorem witness_SinceAnswersTheElapsedTime :
    let u := { idle with seq := { pending := some .since, polling := false, holding := false } }
    (idle.rdg.ts ≤ idle.env.now ∧ idle.phase = .idle ∧ idle.seq.pending = none ∧ idle.stale = false) ∧
      (u.rdg.ts ≤ u.env.now ∧ u.seq.pending = some .since ∧ u.rdg.valid = true) ∧
      ({ u with rdg := { u.rdg with valid := false } } : State).rdg.valid = false := by decide

theorem witness_ForceRunsACycleAndReports :
    (idle.phase = .idle ∧ idle.seq.pending = none) ∧ (inForce .idle).seq.pending = some .force := by decide

theorem witness_CloseReleasesThePin :
    (idle.phase = .idle ∨ idle.phase = .dead) ∧
      (({ idle with phase := .dead } : State).phase = .idle ∨ ({ idle with phase := .dead } : State).phase = .dead) := by
  decide

/-- COMMIT, and CLOSE of a valid Reading. -/
theorem witness_OnlyCommitWritesTheReading :
    (∃ t, exec .tempc State.reset = .next t ∧ Instr.tempc ≠ .commit) ∧
      (∃ t, exec .tempc idle = .next t ∧ t.rdg.valid = true) ∧
      ∃ t, exec .close idle = .next t ∧ idle.rdg.valid = true ∧ t.rdg.valid = false :=
  ⟨⟨_, rfl, by decide⟩, ⟨after (exec .tempc idle), rfl, rfl⟩, ⟨_, rfl, rfl, rfl⟩⟩

/-- An instance at COMMIT with an accepted frame and a valid older Reading meets the invariant. -/
theorem committing_inv : (committing frame9).Inv := by
  have h : (committing frame9).wk.sum = (committing frame9).wk.bytes[4] := by decide +kernel
  constructor <;> first | exact fun _ => ⟨h, rfl⟩ | simp [committing, inForce, idle, State.reset, Work.reset, Phase.inCycle, Instr.runsCycle,
      Instr.isConstruct]

/-- An idle instance with a valid Reading meets the invariant. -/
theorem idle_inv : idle.Inv := by
  constructor <;> simp [idle, State.reset, Phase.inCycle]

/-- The clauses: a step with a valid Reading on both sides, at COMMIT; one at rest. -/
theorem witness_ReadingInvariants :
    ((committing frame9).Inv ∧ (committing frame9).env.resetNow = false ∧ (committing frame9).phase = .commit ∧
        (committing frame9).rdg.valid = true ∧ ∃ t, step (committing frame9) = .next t ∧ t.rdg.valid = true) ∧
      idle.Inv ∧ idle.env.resetNow = false ∧ idle.phase ≠ .commit ∧ ∃ t, step idle = .next t ∧ t.phase ≠ .closed :=
  ⟨⟨committing_inv, rfl, rfl, rfl, ⟨_, rfl, rfl⟩⟩, idle_inv, rfl, by decide, ⟨_, rfl, by decide⟩⟩

theorem witness_WorkingRegistersHaveTheirWriters :
    (∃ t, exec .force idle = .next t) ∧ ∃ t, exec .commit (committing frame9) = .next t ∧
      t.wk.ok ≠ (committing frame9).wk.ok := ⟨⟨_, rfl⟩, ⟨_, rfl, by decide⟩⟩

/-- The four clauses. -/
theorem witness_OnlyPollStores :
    (∃ t, exec .force idle = .next t ∧ Instr.force ≠ .poll) ∧
      (∃ t, exec .poll (inForce .poll) = .next t ∧ (inForce .poll).seq.polling = false) ∧
      (∃ t, exec .poll (looping 3 .high) = .next t ∧ (looping 3 .high).seq.polling = true ∧
        (looping 3 .high).env.nextLevel = (looping 3 .high).wk.cur) ∧
      ∃ t, exec .poll (looping 3 .low) = .next t ∧ (looping 3 .low).seq.polling = true ∧
        (looping 3 .low).env.nextLevel ≠ (looping 3 .low).wk.cur :=
  ⟨⟨_, rfl, by decide⟩, ⟨_, rfl, rfl⟩, ⟨_, rfl, rfl, rfl⟩, ⟨_, rfl, rfl, by decide⟩⟩

theorem witness_PinIsReachedOnlyByItsStages :
    (∃ t, exec .force idle = .next t ∧ Instr.force ≠ .handshake1 ∧ Instr.force ≠ .handshake2 ∧ Instr.force ≠ .handshake3) ∧
      (∃ t, exec .handshake1 (inForce .hsHigh) = .next t) ∧ (∃ t, exec .poll (inForce .poll) = .next t) ∧
      ∃ t, exec .calibrate (fresh 1) = .next t :=
  ⟨⟨_, rfl, by decide⟩, ⟨_, rfl⟩, ⟨_, rfl⟩, ⟨after (exec .calibrate (fresh 1)), rfl⟩⟩

theorem witness_ClockNeverDecreases :
    (∃ t, exec .commit (committing frame9) = .next t) ∧ ∃ t, exec .force idle = .next t := ⟨⟨_, rfl⟩, ⟨_, rfl⟩⟩

/-- CONSTRUCT writes CFG; an operation that keeps `RESET`; one that is no hold. -/
theorem witness_ConfigurationIsWrittenOnce :
    (∃ t, exec (.construct 4 false 2) State.reset = .next t ∧ t.cfg ≠ State.reset.cfg) ∧
      ∃ t, exec .tempc State.reset = .next t ∧ t.phase = .reset ∧ Instr.tempc ≠ .handshake1 ∧ Instr.tempc ≠ .handshake2 :=
  ⟨⟨_, rfl, by decide⟩, ⟨_, rfl, rfl, by decide, by decide⟩⟩

/-- CLASSIFY with 79 entries; DECODE with a wrong checksum. -/
theorem witness_NonFatalFaultKeepsTheReading :
    (∃ t, exec .classify (classifying (List.replicate 79 5)) = .next t ∧ t.phase = .idle) ∧
      ∃ t, exec .decode (decoding frame10) = .next t ∧ t.phase = .idle := by
  refine ⟨⟨_, rfl, rfl⟩, ?_⟩
  rcases execDecode_cases (decoding frame10) with ⟨h, _⟩ | ⟨_, h⟩
  · exact absurd h (by decide +kernel)
  · exact ⟨_, h, rfl⟩

/-- A step, and a hardware reset. -/
theorem witness_PhaseFollowsTheTable :
    (idle.Inv ∧ idle.env.resetNow = false ∧ ∃ t, step idle = .next t) ∧
      ({ idle with env := { idle.env with resets := [0] } } : State).Inv ∧
      ({ idle with env := { idle.env with resets := [0] } } : State).env.resetNow = true ∧
      ∃ t, step { idle with env := { idle.env with resets := [0] } } = .next t :=
  ⟨⟨idle_inv, rfl, ⟨_, rfl⟩⟩, by constructor <;> simp [idle, State.reset, Phase.inCycle], rfl, ⟨_, rfl⟩⟩

theorem witness_StepKeepsTheInvariant :
    (committing frame9).Inv ∧ ∃ t, step (committing frame9) = .next t := ⟨committing_inv, ⟨_, rfl⟩⟩

/-- The stream of P1 with a bound of 60; both bit values occur at the stated places. -/
theorem witness_GoodFrameIsDelivered :
    let s := { asked [HostCmd.plain 5] with
      cal := { maxIterations := 60 }
      env := { idle.env with levels := samplesOf .high ([3, 16, 16] ++ pairTail 10 5 14 frame1 ++ [60]) ++ [] } }
    s.phase = .idle ∧ s.seq.pending = none ∧ s.env.resets = [] ∧ (∀ b ∈ s.env.delays.take 2, b = true) ∧
      s.port.cmds = HostCmd.plain 5 :: [] ∧ (HostCmd.plain 5).op = 5 ∧ (∀ r ∈ [3, 16, 16], r < s.cal.maxIterations) ∧
      5 ≤ 10 ∧ 10 < 14 ∧ 14 < s.cal.maxIterations ∧ acceptedBits frame1 = true ∧
      (∃ (j : Nat) (h : j < 40), frame1[j] = true) ∧ (∃ (j : Nat) (h : j < 40), frame1[j] = false) ∧
      s.env.levels =
        samplesOf .high ([3, 16, 16] ++ pairTail 10 5 14 frame1 ++ [s.cal.maxIterations]) ++ [] := by
  refine ⟨rfl, rfl, rfl, by decide, rfl, rfl, by decide, by decide, by decide, by decide, by decide +kernel,
    ⟨2, by decide, by decide +kernel⟩, ⟨0, by decide, by decide +kernel⟩, rfl⟩

/-- A state with one operation at the port, a Reading, a stale clock and a line that carries `runs`. -/
def onLine (op : BitVec 4) (rdg : Rdg) (bound : Nat) (runs : List Nat) : State :=
  { asked [HostCmd.plain op] with
    cal := { maxIterations := bound }
    rdg := rdg
    env := { idle.env with levels := samplesOf .low (runs ++ [bound]) ++ [], advances := [2000000000] } }

/-- FORCE, and TEMPC with no Reading and with a stale one, on short captures; and TEMPC on the corrupted frame of P3 step 2. -/
theorem witness_FailedCycleIsAbsorbed :
    ∀ p ∈ [(5, Instr.force, idle.rdg, 4, []), (1, .tempc, State.reset.rdg, 4, [3]), (1, .tempc, idle.rdg, 4, [0, 3]),
        (1, .tempc, idle.rdg, 60, [3, 16, 16] ++ pairTail 10 5 14 frame10)],
      let s := onLine p.1 p.2.2.1 p.2.2.2.1 p.2.2.2.2
      s.phase = .idle ∧ s.seq.pending = none ∧ s.env.resets = [] ∧ (∀ b ∈ s.env.delays.take 2, b = true) ∧
        s.port.cmds = HostCmd.plain p.1 :: [] ∧ decodeHostCmd (HostCmd.plain p.1) = .instr p.2.1 ∧
        p.2.1.runsCycle = true ∧ (p.2.1 = .force ∨ s.stale = true) ∧ 1 ≤ s.cal.maxIterations ∧
        (∀ r ∈ p.2.2.2.2, r < s.cal.maxIterations) ∧
        s.env.levels = samplesOf .low (p.2.2.2.2 ++ [s.cal.maxIterations]) ++ [] := by decide +kernel

/-- The second way to fail: the tail of the fourth line is loaded and its frame rejected; the first three are short. -/
theorem witness_FailedCycleIsAbsorbed_rejected :
    (∀ runs ∈ [[], [3], [0, 3]], List.length (α := Nat) runs < 80) ∧
      ∃ tail, Memory.load ([3, 16, 16] ++ pairTail 10 5 14 frame10)
          (([3, 16, 16] ++ pairTail 10 5 14 frame10).length - 80) 80 = some tail ∧
        acceptedBits (classifyBits tail) = false := by
  refine ⟨by decide, ⟨⟨pairTail 10 5 14 frame10⟩, by decide +kernel⟩, by decide +kernel, by decide +kernel⟩

/-- FORCE with markers first, SINCE with data runs first and one more run (V-CLS-5), and HUMID on the all-zero frame of 80 equal
runs (V-CLS-9). -/
theorem witness_AcceptedCycleIsDelivered :
    ∀ p ∈ [(5, Instr.force, [3, 16, 16] ++ pairTail 10 5 14 frame1), (4, .since, pairTail 10 5 14 frame1 ++ [11]),
        (3, .humid, List.replicate 80 7)],
      let s := onLine p.1 idle.rdg 60 p.2.2
      s.phase = .idle ∧ s.seq.pending = none ∧ s.env.resets = [] ∧ (∀ b ∈ s.env.delays.take 2, b = true) ∧
        s.port.cmds = HostCmd.plain p.1 :: [] ∧ decodeHostCmd (HostCmd.plain p.1) = .instr p.2.1 ∧
        p.2.1.runsCycle = true ∧ (p.2.1 = .force ∨ s.stale = true) ∧ 1 ≤ s.cal.maxIterations ∧
        (∀ r ∈ p.2.2, r < s.cal.maxIterations) ∧
        ((Memory.load p.2.2 (p.2.2.length - 80) 80).map fun tail => acceptedBits (classifyBits tail)) = some true ∧
        s.env.levels = samplesOf .low (p.2.2 ++ [s.cal.maxIterations]) ++ [] := by decide +kernel

end Sys2Proof.Tests
end

section
/-! PROOFS, 10_state.md, part 1. The invariant of the machine read phase by phase: what it says of a state in each phase
of R19's table, the clauses about the other phases being vacuous there. -/

namespace Sys2Proof

theorem Instr.runsCycle_of_isConstruct {i : Instr} (h : i.isConstruct = true) : i.runsCycle = false := by
  cases i with
  | construct => rfl
  | _ => cases h

namespace Machine

/-- What the invariant says in every phase. -/
structure State.Common (s : State) : Prop where
  calReads : 1 ≤ s.par.calReads
  stamp : s.rdg.valid = true → s.rdg.ts ≤ s.env.now
  range : s.rdg.valid = true → s.rdg.hum10.toNat ≤ 2805 ∧ s.rdg.temp10.toNat ≤ 2805

/-- Neither POLL's loop nor a hold is in progress. -/
def Seq.Still (q : Seq) : Prop := q.polling = false ∧ q.holding = false

/-- The pin as step 1 of the handshake drives it (R92). -/
def PinState.DrivenHigh (p : PinState) : Prop := p.dir = some .output ∧ p.pull = some .none ∧ p.out = some .high

/-- The pin as step 2 drives it (R93). -/
def PinState.DrivenLow (p : PinState) : Prop := p.dir = some .output ∧ p.pull = some .none ∧ p.out = some .low

/-- The pin as step 3 leaves it (R94). -/
def PinState.Released (p : PinState) : Prop := p.dir = some .input ∧ p.pull = some .up ∧ p.out = some .low

/-- The block is not configured: before CONSTRUCT and after CLOSE. -/
structure State.Unconfigured (s : State) : Prop where
  owned : s.pin.owned = false
  valid : s.rdg.valid = false
  pending : s.seq.pending = none
  still : s.seq.Still

/-- CALIBRATE is due. -/
structure State.Calibrating (s : State) : Prop where
  owned : s.pin.owned = true
  valid : s.rdg.valid = false
  pending : ∃ i, s.seq.pending = some i ∧ i.isConstruct = true
  still : s.seq.Still

/-- The calibration has failed. -/
structure State.Failed (s : State) : Prop where
  owned : s.pin.owned = true
  valid : s.rdg.valid = false
  pending : ∀ i, s.seq.pending = some i → i.isConstruct = true
  still : s.seq.Still
  fault : s.diag.lastFault = 1

/-- A constructed block rests, or an operation is at its return. -/
structure State.Idle (s : State) : Prop where
  owned : s.pin.owned = true
  bound : 1 ≤ s.cal.maxIterations
  pending : ∀ i, s.seq.pending = some i → i.isConstruct = true ∨ i.runsCycle = true
  still : s.seq.Still
  outcome : ∀ i, s.seq.pending = some i → i.runsCycle = true → (s.wk.ok = true ↔ s.diag.lastFault = 0)

/-- A read cycle runs, with no fault so far. -/
structure State.Cycling (s : State) : Prop where
  owned : s.pin.owned = true
  bound : 1 ≤ s.cal.maxIterations
  pending : ∃ i, s.seq.pending = some i ∧ i.runsCycle = true
  ok : s.wk.ok = false
  fault : s.diag.lastFault = 0

/-- What the invariant says of a state in the phase `p`, beside `State.Common`. -/
def Phase.Holds (s : State) : Phase → Prop
  | .reset => s.Unconfigured
  | .cal => s.Calibrating
  | .dead => s.Failed
  | .idle => s.Idle
  | .hsHigh => s.Cycling ∧ s.seq.polling = false ∧ (s.seq.holding = true → s.pin.DrivenHigh)
  | .hsLow =>
    s.Cycling ∧ s.seq.polling = false ∧ s.pin.dir = some .output ∧ s.pin.pull = some .none ∧
      (s.seq.holding = true → s.pin.out = some .low)
  | .hsRel => s.Cycling ∧ s.seq.Still ∧ s.pin.DrivenLow
  | .poll =>
    s.Cycling ∧ s.seq.holding = false ∧ s.pin.Released ∧
      (s.seq.polling = true → s.wk.cnt < s.cal.maxIterations ∧ s.raw.wf s.cal.maxIterations = true)
  | .classify =>
    s.Cycling ∧ s.seq.Still ∧ s.pin.Released ∧ s.wk.cnt = s.cal.maxIterations ∧
      s.raw.wf s.cal.maxIterations = true ∧ s.diag.lastLen = s.raw.length ∧ s.diag.cto = decide (s.raw.length = 0)
  | .decode => s.Cycling ∧ s.seq.Still ∧ s.pin.Released
  | .commit =>
    s.Cycling ∧ s.seq.Still ∧ s.pin.Released ∧ s.wk.sum = s.wk.bytes[4] ∧ s.wk.sum = checksum s.wk.bytes
  | .closed => s.Unconfigured

theorem State.Inv.common {s : State} (h : s.Inv) : s.Common := ⟨h.calReads, h.stamp, h.range⟩

theorem State.Inv.not_polling {s : State} (h : s.Inv) (hp : s.phase ≠ .poll) : s.seq.polling = false :=
  Bool.eq_false_iff.2 fun hq => hp (h.loop hq)

theorem State.Inv.not_holding {s : State} (h : s.Inv) (hh : s.phase ≠ .hsHigh) (hl : s.phase ≠ .hsLow) :
    s.seq.holding = false :=
  Bool.eq_false_iff.2 fun hq => (h.hold hq).elim (fun c => hh c.1) fun c => hl c.1

theorem State.Inv.invalid {s : State} (h : s.Inv) (hi : s.phase ≠ .idle) (hc : s.phase.inCycle = false) :
    s.rdg.valid = false :=
  Bool.eq_false_iff.2 fun hv => (h.valid hv).elim hi (by simp [hc])

theorem State.Inv.cycling {s : State} (h : s.Inv) (hc : s.phase.inCycle = true) : s.Cycling where
  owned := h.owned.2 ⟨fun hp => by simp [hp, Phase.inCycle] at hc, fun hp => by simp [hp, Phase.inCycle] at hc⟩
  bound := h.bound (.inr hc)
  pending := h.inOp hc
  ok := (h.running hc).1
  fault := (h.running hc).2

/-- The invariant of a state, read in its phase. -/
theorem State.Inv.holds {s : State} (h : s.Inv) {p : Phase} (hp : s.phase = p) : p.Holds s := by
  have polling := h.not_polling
  have holding := h.not_holding
  have cycling := h.cycling
  have invalid := h.invalid
  have owned := h.owned
  rw [hp] at polling holding cycling invalid owned
  have still (a : p ≠ .poll) (b : p ≠ .hsHigh) (c : p ≠ .hsLow) : s.seq.Still := ⟨polling a, holding b c⟩
  cases p with
  | reset => exact ⟨by simpa using owned, invalid nofun rfl, h.atRest (.inl hp), still nofun nofun nofun⟩
  | closed => exact ⟨by simpa using owned, invalid nofun rfl, h.atRest (.inr hp), still nofun nofun nofun⟩
  | cal => exact ⟨owned.2 ⟨nofun, nofun⟩, invalid nofun rfl, h.inCal hp, still nofun nofun nofun⟩
  | dead =>
    exact ⟨owned.2 ⟨nofun, nofun⟩, invalid nofun rfl, fun i => h.inDead i hp, still nofun nofun nofun, h.failed hp⟩
  | idle =>
    exact ⟨owned.2 ⟨nofun, nofun⟩, h.bound (.inl hp), fun i => h.inIdle i hp, still nofun nofun nofun,
      fun i => h.outcome i hp⟩
  | hsHigh =>
    refine ⟨cycling rfl, polling nofun, fun hq => ?_⟩
    obtain ⟨-, driven⟩ | ⟨hl, -⟩ := h.hold hq
    · exact driven
    · simp [hp] at hl
  | hsLow =>
    refine ⟨cycling rfl, polling nofun, (h.low hp).1, (h.low hp).2, fun hq => ?_⟩
    obtain ⟨hh, -⟩ | ⟨-, -, -, out⟩ := h.hold hq
    · simp [hp] at hh
    · exact out
  | hsRel => exact ⟨cycling rfl, still nofun nofun nofun, h.rel hp⟩
  | poll => exact ⟨cycling rfl, holding nofun nofun, h.released (.inl hp), h.counting⟩
  | classify =>
    exact ⟨cycling rfl, still nofun nofun nofun, h.released (.inr (.inl hp)), h.captured hp⟩
  | decode => exact ⟨cycling rfl, still nofun nofun nofun, h.released (.inr (.inr (.inl hp)))⟩
  | commit =>
    exact ⟨cycling rfl, still nofun nofun nofun, h.released (.inr (.inr (.inr hp))), h.accepted hp⟩

theorem Phase.cycling_of_holds {s : State} {p : Phase} (h : p.Holds s) (hc : p.inCycle = true) : s.Cycling := by
  cases p with
  | reset | cal | dead | idle | closed => cases hc
  | decode | hsHigh | hsLow | hsRel | poll | classify | commit => exact h.1

theorem Phase.still_of_holds {s : State} {p : Phase} (h : p.Holds s) (a : p ≠ .poll) (b : p ≠ .hsHigh)
    (c : p ≠ .hsLow) : s.seq.Still := by
  cases p with
  | poll | hsHigh | hsLow => contradiction
  | reset | closed | cal | dead | idle => exact h.still
  | hsRel | classify | decode | commit => exact h.2.1

theorem Phase.owned_of_holds {s : State} {p : Phase} (h : p.Holds s) :
    s.pin.owned = true ↔ p ≠ .reset ∧ p ≠ .closed := by
  cases p with
  | reset | closed | cal | dead | idle => simp [h.owned]
  | hsHigh | hsLow | hsRel | poll | classify | decode | commit => simp [h.1.owned]

theorem Phase.valid_of_holds {s : State} {p : Phase} (h : p.Holds s) (hv : s.rdg.valid = true) :
    p = .idle ∨ p.inCycle = true := by
  cases p with
  | reset | closed | cal | dead => exact absurd hv (by simp [h.valid])
  | idle => exact .inl rfl
  | hsHigh | hsLow | hsRel | poll | classify | decode | commit => exact .inr rfl

theorem Phase.hold_of_holds {s : State} {p : Phase} (h : p.Holds s) (hq : s.seq.holding = true) :
    p = .hsHigh ∧ s.pin.DrivenHigh ∨ p = .hsLow ∧ s.pin.DrivenLow := by
  by_cases hh : p = .hsHigh
  · subst hh
    exact .inl ⟨rfl, h.2.2 hq⟩
  by_cases hl : p = .hsLow
  · subst hl
    obtain ⟨-, -, dir, pull, out⟩ := h
    exact .inr ⟨rfl, dir, pull, out hq⟩
  have hf : s.seq.holding = false := by
    by_cases hp : p = .poll
    · subst hp
      exact h.2.1
    · exact (still_of_holds h hp hh hl).2
  simp [hf] at hq

theorem Phase.loop_of_holds {s : State} {p : Phase} (h : p.Holds s) (hq : s.seq.polling = true) : p = .poll := by
  by_contra hp
  have hf : s.seq.polling = false := by
    by_cases hh : p = .hsHigh
    · subst hh
      exact h.2.1
    by_cases hl : p = .hsLow
    · subst hl
      exact h.2.1
    exact (still_of_holds h hp hh hl).1
  simp [hf] at hq

theorem Phase.released_of_holds {s : State} {p : Phase} (h : p.Holds s)
    (hp : p = .poll ∨ p = .classify ∨ p = .decode ∨ p = .commit) : s.pin.Released := by
  rcases hp with rfl | rfl | rfl | rfl
  · exact h.2.2.1
  · exact h.2.2.1
  · exact h.2.2
  · exact h.2.2.1

theorem Phase.Holds.of_eq {s : State} {p q : Phase} (h : p.Holds s) (hp : p = q) : q.Holds s := hp ▸ h

/-- Conversely, what the phase asks for gives the whole invariant. -/
theorem State.inv_of_holds {s : State} (hc : s.Common) (h : s.phase.Holds s) : s.Inv where
  calReads := hc.calReads
  stamp := hc.stamp
  range := hc.range
  owned := Phase.owned_of_holds h
  valid := Phase.valid_of_holds h
  hold := Phase.hold_of_holds h
  loop := Phase.loop_of_holds h
  bound hp := hp.elim (fun hi => (h.of_eq hi).bound) fun hcyc => (Phase.cycling_of_holds h hcyc).bound
  inCal hp := (h.of_eq hp).pending
  inOp hp := (Phase.cycling_of_holds h hp).pending
  inIdle i hp := (h.of_eq hp).pending i
  inDead i hp := (h.of_eq hp).pending i
  atRest hp := hp.elim (fun hr => (h.of_eq hr).pending) fun hr => (h.of_eq hr).pending
  low hp := let ⟨_, _, dir, pull, _⟩ := h.of_eq hp; ⟨dir, pull⟩
  rel hp := let ⟨_, _, low⟩ := h.of_eq hp; low
  released := Phase.released_of_holds h
  counting hq := let ⟨_, _, _, counting⟩ := h.of_eq (Phase.loop_of_holds h hq); counting hq
  captured hp := let ⟨_, _, _, captured⟩ := h.of_eq hp; captured
  accepted hp := let ⟨_, _, _, accepted⟩ := h.of_eq hp; accepted
  running hp := ⟨(Phase.cycling_of_holds h hp).ok, (Phase.cycling_of_holds h hp).fault⟩
  outcome i hp := (h.of_eq hp).outcome i
  failed hp := (h.of_eq hp).fault

end Machine
end Sys2Proof
end

section
/-! PROOFS, 10_state.md, part 2. What performing an instruction can do, said once for all instructions: the relation
`Performs` lists the outcomes of the meanings, each with the whole next state, and `exec_performs` says that
`exec` has no other. -/

namespace Sys2Proof

/-- The phase that selects a stage micro-operation (R71); a host operation has none. -/
def Instr.stage? : Instr → Option Machine.Phase
  | .calibrate => some .cal
  | .handshake1 => some .hsHigh
  | .handshake2 => some .hsLow
  | .handshake3 => some .hsRel
  | .poll => some .poll
  | .classify => some .classify
  | .decode => some .decode
  | .commit => some .commit
  | _ => none

namespace Machine

/-- `e'` is `e` after some `Clock()` calls: only the clock has been used. -/
structure Env.ClockedTo (e e' : Env) : Prop where
  now_le : e.now ≤ e'.now
  frame : e' = { e with advances := e'.advances, clockReads := e'.clockReads, now := e'.now }

theorem Env.ClockedTo.refl (e : Env) : e.ClockedTo e := ⟨le_rfl, rfl⟩

theorem State.clockedTo_afterClock (s : State) : s.env.ClockedTo s.afterClock.env := ⟨s.env.now_le_nextClock, rfl⟩

theorem Env.ClockedTo.trans {e e' e'' : Env} (h : e.ClockedTo e') (h' : e'.ClockedTo e'') : e.ClockedTo e'' where
  now_le := h.now_le.trans h'.now_le
  frame := by rw [h'.frame, h.frame]

theorem Env.ClockedTo.delays {e e' : Env} (h : e.ClockedTo e') : e'.delays = e.delays := by rw [h.frame]

theorem State.clockedTo_afterStale (s : State) : s.env.ClockedTo s.afterStale.env := by
  obtain ⟨-, h⟩ | ⟨-, h⟩ := s.afterStale_cases <;> rw [h]
  · exact s.clockedTo_afterClock
  · exact .refl _

theorem State.afterStale_eq (s : State) : s.afterStale = s.setEnv s.afterStale.env := by
  obtain ⟨-, h⟩ | ⟨-, h⟩ := s.afterStale_cases <;> rw [h] <;> rfl

/-- `Performs i s t`: performing `i` in `s` may end in `t`. An outcome keeps, as hypotheses, what the state claims
need of the guard it is reached under; the next state is given whole. -/
inductive Performs : Instr → State → State → Prop
  | refused {i : Instr} {s : State} (hi : i.stage? = none) : Performs i s s.refuse
  | answered {i : Instr} {s : State} {e : Env} (r : Response) (hi : i.stage? = none) (he : s.env.ClockedTo e) :
    Performs i s ((s.setEnv e).finish r)
  | cycleStarted {i : Instr} {s : State} {e : Env} (hi : i.runsCycle = true) (hp : s.phase = .idle)
    (he : s.env.ClockedTo e) : Performs i s ((s.setEnv e).startCycle i)
  | constructed {p : Nat} {c : Bool} {w : Nat} {s : State} (hp : s.phase = .reset) :
    Performs (.construct p c w) s
      { s with
        phase := .cal
        cfg := { pin := p, cacheDisabled := c, windowS := BitVec.ofNat 32 w }
        pin := { s.pin with owned := true }
        rdg := { s.rdg with valid := false }
        diag := { s.diag with lastFault := 0, cto := false, info := none }
        seq := { s.seq with pending := some (.construct p c w) } }
  | closed {s : State} (hp : s.phase = .idle ∨ s.phase = .dead) :
    Performs .close s
      { s with
        phase := .closed
        pin := { s.pin with owned := false }
        rdg := { s.rdg with valid := false }
        port := { s.port with rsps := s.port.rsps ++ [.done] } }
  | calibrationFailed {s : State} :
    Performs .calibrate s
      { s with
        phase := .dead
        diag := { s.diag with lastFault := 1, info := some (.calibrationFailure (measuredDuration s)) }
        env := (measured s).env }
  | calibrated {s : State} {bound : Nat} (hb : 1 ≤ bound) :
    Performs .calibrate s { s with phase := .idle, cal := { maxIterations := bound }, env := (measured s).env }
  | held {i : Instr} {s : State} (hi : i = .handshake1 ∨ i = .handshake2) (hq : s.seq.holding = true) : Performs i s s
  | drivenHigh {s : State} (hd : s.env.nextDelayReturns = true) :
    Performs .handshake1 s
      { s with
        phase := .hsLow
        pin := { s.pin with dir := some .output, pull := some .none, out := some .high }
        seq := { s.seq with holding := !s.env.nextDelayReturns }
        env := (((s.pinMode .output .none).pinWrite .high).requestDelay s.par.tIdleMs).env }
  | heldHigh {s : State} (hd : s.env.nextDelayReturns = false) :
    Performs .handshake1 s
      { s with
        pin := { s.pin with dir := some .output, pull := some .none, out := some .high }
        seq := { s.seq with holding := !s.env.nextDelayReturns }
        env := (((s.pinMode .output .none).pinWrite .high).requestDelay s.par.tIdleMs).env }
  | drivenLow {s : State} (hd : s.env.nextDelayReturns = true) :
    Performs .handshake2 s
      { s with
        phase := .hsRel
        pin := { s.pin with out := some .low }
        seq := { s.seq with holding := !s.env.nextDelayReturns }
        env := ((s.pinWrite .low).requestDelay s.par.tStartMs).env }
  | heldLow {s : State} (hd : s.env.nextDelayReturns = false) :
    Performs .handshake2 s
      { s with
        pin := { s.pin with out := some .low }
        seq := { s.seq with holding := !s.env.nextDelayReturns }
        env := ((s.pinWrite .low).requestDelay s.par.tStartMs).env }
  | released {s : State} :
    Performs .handshake3 s
      { s with
        phase := .poll
        pin := { s.pin with dir := some .input, pull := some .up }
        seq := { s.seq with polling := false }
        env := { s.env with calls := s.env.calls ++ [.setMode s.cfg.pin .input .up] } }
  | sampledFirst {s : State} :
    Performs .poll s
      { s with
        wk := { s.wk with cur := s.env.nextLevel, cnt := 0 }
        raw := []
        seq := { s.seq with polling := true }
        env := s.afterPinRead.env }
  | sampledSame {s : State} (hq : s.seq.polling = true) (hb : s.wk.cnt + 1 ≠ s.cal.maxIterations) :
    Performs .poll s { s with wk := { s.wk with cnt := s.wk.cnt + 1 }, env := s.afterPinRead.env }
  | sampledEdge {s : State} (hq : s.seq.polling = true) :
    Performs .poll s
      { s with
        wk := { s.wk with cur := s.env.nextLevel, cnt := 0 }
        raw := s.raw.append s.wk.cnt
        env := s.afterPinRead.env }
  | captured {s : State} (hq : s.seq.polling = true) (hb : s.wk.cnt + 1 = s.cal.maxIterations) :
    Performs .poll s
      { s with
        phase := .classify
        wk := { s.wk with cnt := s.wk.cnt + 1 }
        diag := { s.diag with lastLen := s.raw.length, cto := decide (s.raw.length = 0) }
        seq := { s.seq with polling := false }
        env := s.afterPinRead.env }
  | tooShort {s : State} :
    Performs .classify s
      { s with
        phase := .idle
        wk := { s.wk with n := s.raw.length, ok := false }
        diag := { s.diag with lastFault := 3, info := some (.insufficientSamples s.raw.length) } }
  | classified {s : State} (t : Vector Nat 80) :
    Performs .classify s { s with phase := .decode, wk := classifyWork { s.wk with n := s.raw.length } t }
  | accepted {s : State} (hs : (decoded s).wk.sum = (decoded s).wk.bytes[4]) :
    Performs .decode s { s with phase := .commit, wk := (decoded s).wk }
  | mismatched {s : State} :
    Performs .decode s
      { s with
        phase := .idle
        wk := { (decoded s).wk with ok := false }
        diag := { s.diag with
          lastFault := 4, info := some (.checksumMismatch (decoded s).wk.bytes (decoded s).wk.sum) } }
  | committed {s : State} :
    Performs .commit s
      { s with
        phase := .idle
        rdg :=
          { valid := true
            hum10 := humidityOf s.wk.bytes
            temp10 := temperatureOf s.wk.bytes
            ts := s.env.nextClock }
        wk := { s.wk with ok := true }
        env := s.afterClock.env }

/-! ### Each meaning has only these outcomes -/

theorem execConstruct_performs {p w : Nat} {c : Bool} {s t : State} (h : execConstruct p c w s = .next t) :
    Performs (.construct p c w) s t := by
  obtain ⟨-, -, heq⟩ | ⟨-, -, heq⟩ | ⟨-, hp, heq⟩ | ⟨-, -, heq⟩ := execConstruct_cases p c w s <;>
    rw [heq] at h <;> cases h
  · exact .answered _ rfl (.refl _)
  · exact .answered _ rfl (.refl _)
  · exact .constructed hp
  · exact .refused rfl

/-- The accessor skeleton (R134), whatever its response. -/
theorem access_performs {op : Instr} {deliver : State → State} (s : State) (hc : op.runsCycle = true)
    (hop : op.stage? = none)
    (hd : ∀ u, ∃ e r, u.env.ClockedTo e ∧ deliver u = (u.setEnv e).finish r) : Performs op s (access op deliver s) := by
  obtain ⟨-, heq⟩ | ⟨-, hp, -, heq⟩ | ⟨-, -, -, heq⟩ | ⟨-, -, heq⟩ := access_cases op deliver s <;> rw [heq]
  · obtain ⟨e, r, he, heq⟩ := hd s
    exact heq ▸ .answered r hop he
  · exact s.afterStale_eq ▸ .cycleStarted hc hp s.clockedTo_afterStale
  · obtain ⟨e, r, he, heq⟩ := hd s.afterStale
    rw [heq, s.afterStale_eq]
    exact .answered r hop (s.clockedTo_afterStale.trans he)
  · exact .refused hop

theorem deliverValue_finishes (f : Rdg → Nat) (u : State) :
    ∃ e r, u.env.ClockedTo e ∧ deliverValue f u = (u.setEnv e).finish r := by
  obtain ⟨-, heq⟩ | ⟨-, heq⟩ := deliverValue_cases f u
  · exact ⟨_, _, .refl _, heq⟩
  · exact ⟨_, _, .refl _, heq⟩

theorem deliverSince_finishes (u : State) :
    ∃ e r, u.env.ClockedTo e ∧ deliverSince u = (u.setEnv e).finish r := by
  obtain ⟨-, heq⟩ | ⟨-, heq⟩ := deliverSince_cases u
  · exact ⟨_, _, u.clockedTo_afterClock, heq⟩
  · exact ⟨_, _, .refl _, heq⟩

theorem execForce_performs {s t : State} (h : execForce s = .next t) : Performs .force s t := by
  obtain ⟨-, -, heq⟩ | ⟨-, -, heq⟩ | ⟨-, hp, heq⟩ | ⟨-, -, heq⟩ := execForce_cases s <;> rw [heq] at h <;> cases h
  · exact .answered _ rfl (.refl _)
  · exact .answered _ rfl (.refl _)
  · exact .cycleStarted rfl hp (.refl _)
  · exact .refused rfl

theorem execClose_performs {s t : State} (h : execClose s = .next t) : Performs .close s t := by
  obtain ⟨hp, heq⟩ | ⟨-, -, heq⟩ := execClose_cases s <;> rw [heq] at h <;> cases h
  · exact .closed hp
  · exact .refused rfl

theorem execCalibrate_performs {s t : State} (h : execCalibrate s = .next t) : Performs .calibrate s t := by
  obtain ⟨-, heq⟩ | ⟨-, hb, heq⟩ := execCalibrate_cases s <;> rw [heq, measured_eq] at h <;> cases h
  · exact .calibrationFailed
  · exact .calibrated (Nat.one_le_iff_ne_zero.2 hb)

theorem execHandshake1_performs {s t : State} (h : execHandshake1 s = .next t) : Performs .handshake1 s t := by
  obtain ⟨hq, heq⟩ | ⟨-, hd, heq⟩ | ⟨-, hd, heq⟩ := execHandshake1_cases s <;> rw [heq] at h <;> cases h
  · exact .held (.inl rfl) hq
  · exact .drivenHigh hd
  · exact .heldHigh hd

theorem execHandshake2_performs {s t : State} (h : execHandshake2 s = .next t) : Performs .handshake2 s t := by
  obtain ⟨hq, heq⟩ | ⟨-, hd, heq⟩ | ⟨-, hd, heq⟩ := execHandshake2_cases s <;> rw [heq] at h <;> cases h
  · exact .held (.inr rfl) hq
  · exact .drivenLow hd
  · exact .heldLow hd

theorem execPoll_performs {s t : State} (h : execPoll s = .next t) : Performs .poll s t := by
  obtain ⟨-, heq⟩ | ⟨hq, -, hb, heq⟩ | ⟨hq, -, hb, heq⟩ | ⟨hq, -, heq⟩ := execPoll_cases s <;> rw [heq] at h <;> cases h
  · exact .sampledFirst
  · exact .captured hq hb
  · exact .sampledSame hq hb
  · exact .sampledEdge hq

theorem execClassify_performs {s t : State} (h : execClassify s = .next t) : Performs .classify s t := by
  obtain ⟨-, heq⟩ | ⟨-, tail, -, heq⟩ := execClassify_cases s <;> rw [heq] at h <;> cases h
  · exact .tooShort
  · exact .classified tail

theorem execDecode_performs {s t : State} (h : execDecode s = .next t) : Performs .decode s t := by
  obtain ⟨hs, heq⟩ | ⟨-, heq⟩ := execDecode_cases s <;> rw [heq] at h <;> cases h
  · exact .accepted hs
  · exact .mismatched

theorem execCommit_performs {s t : State} (h : execCommit s = .next t) : Performs .commit s t := by
  cases h
  exact .committed

/-- Every execution of every instruction is one of the outcomes `Performs` lists. -/
theorem exec_performs {i : Instr} {s t : State} (h : exec i s = .next t) : Performs i s t := by
  cases i with
  | construct p c w => exact execConstruct_performs h
  | tempc => cases h; exact access_performs s rfl rfl (deliverValue_finishes _)
  | tempf => cases h; exact access_performs s rfl rfl (deliverValue_finishes _)
  | humid => cases h; exact access_performs s rfl rfl (deliverValue_finishes _)
  | since => cases h; exact access_performs s rfl rfl deliverSince_finishes
  | force => exact execForce_performs h
  | close => exact execClose_performs h
  | calibrate => exact execCalibrate_performs h
  | handshake1 => exact execHandshake1_performs h
  | handshake2 => exact execHandshake2_performs h
  | handshake3 => cases h; exact .released
  | poll => exact execPoll_performs h
  | classify => exact execClassify_performs h
  | decode => exact execDecode_performs h
  | commit => exact execCommit_performs h

end Machine
end Sys2Proof
end

section
/-! PROOFS, 10_state.md, part 3. The decoders, and what one step of the machine performs. -/

namespace Sys2Proof.Machine

/-! ### The decoders -/

theorem decodeHostCmd_wellFormed {c : HostCmd} {i : Instr} (h : decodeHostCmd c = .instr i) : i.wellFormed = true := by
  unfold decodeHostCmd at h
  split at h <;> cases h
  case h_1 => exact decide_eq_true c.windowS.isLt
  all_goals rfl

theorem decodeStage_wellFormed {code : BitVec 4} {i : Instr} (h : decodeStage code = .instr i) :
    i.wellFormed = true := by
  unfold decodeStage at h
  split at h <;> cases h
  all_goals rfl

/-- Settles O2: CONSTRUCT's window comes from a 32-bit field, and no other instruction has an operand. -/
theorem decodedInstructionsAreWellFormed : Obligations.DecodedInstructionsAreWellFormed := by
  intro f w i h
  cases f with
  | hostCmd => exact decodeHostCmd_wellFormed h
  | stage => exact decodeStage_wellFormed h

theorem ofCode_code (p : Phase) : Phase.ofCode p.code = some p := by cases p <;> rfl

/-- Settles O5, phase by phase and, for the four codes without a phase, code by code. -/
theorem phaseCodesSelectStages : Obligations.PhaseCodesSelectStages :=
  ⟨ofCode_code, fun p => by cases p <;> rfl, by decide⟩

theorem stage?_of_decodeHostCmd {c : HostCmd} {i : Instr} (h : decodeHostCmd c = .instr i) : i.stage? = none := by
  unfold decodeHostCmd at h
  split at h <;> cases h
  all_goals rfl

theorem stage?_of_decodeStage {p : Phase} {i : Instr} (h : decodeStage p.code = .instr i) : i.stage? = some p := by
  cases p <;> cases h <;> rfl

theorem code_of_ofCode :
    ∀ code : BitVec 4, (decodeStage code).instr?.isSome = true → (Phase.ofCode code).map Phase.code = some code := by
  decide

/-- A code that selects a stage is the code of a phase. -/
theorem ofCode_of_decodeStage {code : BitVec 4} {i : Instr} (h : decodeStage code = .instr i) :
    ∃ p, Phase.ofCode code = some p ∧ p.code = code :=
  Option.map_eq_some_iff.1 (code_of_ofCode code (by simp [h, Decoded.instr?]))

/-! ### The step -/

theorem step_of_resetNow {s : State} (hr : s.env.resetNow = true) : step s = .next s.ticked.hardwareReset := by
  simp [step, hr]

theorem step_of_fetch_run {s u : State} {i : Instr} (hr : s.env.resetNow = false) (hf : fetch s.ticked = .run i u) :
    step s = exec i u := by simp [step, perform, hr, hf]

theorem step_of_stage {s : State} {i : Instr} (hr : s.env.resetNow = false) (hs : decodeStage s.phase.code = .instr i) :
    step s = exec i s.ticked :=
  step_of_fetch_run hr (by simp [fetch, hs])

section Resting
variable {s : State} (hr : s.env.resetNow = false) (hs : decodeStage s.phase.code = .restingPhase s.phase.code)
include hr hs

theorem step_of_pending {i : Instr} (hp : s.seq.pending = some i) : step s = exec i s.ticked :=
  step_of_fetch_run hr (by simp [fetch, hs, hp])

theorem step_of_command {c : HostCmd} {rest : List HostCmd} {i : Instr} (hp : s.seq.pending = none)
    (hc : s.port.cmds = c :: rest) (hi : decodeHostCmd c = .instr i) : step s = exec i s.ticked.takeCmd :=
  step_of_fetch_run hr (by simp [fetch, hs, hp, hc, hi])

theorem step_of_reserved {c : HostCmd} {rest : List HostCmd} (hp : s.seq.pending = none)
    (hc : s.port.cmds = c :: rest) (hi : decodeHostCmd c = .reservedOp c.op) :
    step s = .next s.ticked.takeCmd.refuse := by
  simp [step, perform, fetch, hr, hs, hp, hc, hi]

theorem step_of_quiet (hp : s.seq.pending = none) (hc : s.port.cmds = []) : step s = .next s.ticked := by
  simp [step, perform, fetch, hr, hs, hp, hc]

end Resting

theorem ticked_of_no_resets {s : State} (h : s.env.resets = []) : s.ticked = s := by
  simp only [State.ticked, Env.tick, h]
  rfl

theorem ticked_of_later_reset {s : State} {k : Nat} {rest : List Nat} (h : s.env.resets = (k + 1) :: rest) :
    s.ticked = { s with env := { s.env with resets := k :: rest } } := by
  simp only [State.ticked, Env.tick, h]
  rfl

theorem State.takeCmd_of_cons {s : State} {c : HostCmd} {rest : List HostCmd} (h : s.port.cmds = c :: rest) :
    s.takeCmd = { s with port := { cmds := rest, rsps := s.port.rsps } } := by
  simp [State.takeCmd, h]

/-- Settles O6: the stage of the phase first, then the operation in progress, then the port. -/
theorem stepPerformsWhatIsSelected : Obligations.StepPerformsWhatIsSelected := by
  intro s hr
  refine ⟨fun i => step_of_stage hr, fun hs => ⟨fun i => step_of_pending hr hs, ?_, ?_, step_of_quiet hr hs⟩,
    ticked_of_no_resets, fun k rest => ticked_of_later_reset⟩
  · intro c rest i hp hc hi
    rw [step_of_command hr hs hp hc hi, State.takeCmd_of_cons (s := s.ticked) hc]
    rfl
  · intro c rest hp hc hi
    rw [step_of_reserved hr hs hp hc hi, State.takeCmd_of_cons (s := s.ticked) hc]
    rfl

/-! ### A word placed from outside -/

theorem decodeStage_issue (s : State) (c : HostCmd) :
    decodeStage (s.issue c).phase.code = .restingPhase (s.issue c).phase.code := by
  obtain ⟨p, _⟩ := s
  cases p <;> rfl

theorem step_issue {s : State} {c : HostCmd} {i : Instr} (h : decodeHostCmd c = .instr i) :
    step (s.issue c) = exec i (s.issue c).ticked.takeCmd :=
  step_of_command rfl (decodeStage_issue s c) rfl rfl h

/-- The table's reading of a word: the host operation, and the stage where there is none (log 10). -/
theorem decodeTableWord_cases {n w : Nat} {i : Instr} (h : decodeTableWord n w = some i) :
    decodeWord .hostCmd (w % 2 ^ n) = .instr i ∨
      (∀ j, decodeWord .hostCmd (w % 2 ^ n) ≠ .instr j) ∧ decodeWord .stage (w % 2 ^ n) = .instr i := by
  unfold decodeTableWord at h
  simp only at h
  split at h
  next j hj => exact .inl (hj.trans (congrArg _ (Option.some.inj h)))
  next hno =>
    refine .inr ⟨hno, ?_⟩
    cases hd : decodeWord .stage (w % 2 ^ n) <;> simp_all [Decoded.instr?]

theorem placeWord_of_hostCmd {n w : Nat} {i : Instr} (s : State) (h : decodeWord .hostCmd (w % 2 ^ n) = .instr i) :
    s.placeWord n w = s.issue (HostCmd.ofWord (w % 2 ^ n)) := by
  simp [State.placeWord, h]

theorem placeWord_of_stage {n w : Nat} {i : Instr} {p : Phase} (s : State)
    (hno : ∀ j, decodeWord .hostCmd (w % 2 ^ n) ≠ .instr j) (h : decodeWord .stage (w % 2 ^ n) = .instr i)
    (hp : Phase.ofCode (BitVec.ofNat 4 (w % 2 ^ n)) = some p) :
    s.placeWord n w = { s with phase := p, env := { s.env with resets := [] } } := by
  simp only [State.placeWord, h, hp]

/-- Settles O7: a host operation is taken from the port, a stage selected by the phase register. -/
theorem placedWordIsPerformed : Obligations.PlacedWordIsPerformed := by
  intro s w i h
  rw [State.withFetchWord]
  obtain hcmd | ⟨hno, hstage⟩ := decodeTableWord_cases h
  · rw [placeWord_of_hostCmd s hcmd]
    exact ⟨_, step_issue hcmd, rfl, rfl, rfl, rfl, rfl, rfl, rfl, rfl, rfl⟩
  · obtain ⟨p, hp, hcode⟩ := ofCode_of_decodeStage hstage
    rw [placeWord_of_stage s hno hstage hp]
    refine ⟨_, step_of_stage rfl ?_, rfl, rfl, rfl, rfl, rfl, rfl, rfl, rfl, rfl⟩
    exact (congrArg decodeStage hcode).trans hstage

/-- Settles O10, each value as `State.reset` writes it. -/
theorem resetStateHoldsTheSpecifiedValues : Obligations.ResetStateHoldsTheSpecifiedValues :=
  ⟨rfl, rfl, rfl, rfl, rfl, rfl, rfl, rfl, rfl⟩

end Sys2Proof.Machine
end

section
/-! PROOFS, 10_state.md, part 4. What every instruction leaves unchanged, in whatever state it is performed: who writes
the Reading, the working registers and the configuration. -/

namespace Sys2Proof.Machine

/-- What an execution does to the Reading: nothing; or COMMIT writes it whole; or it ends its validity, CLOSE on the way
to `CLOSED` and CONSTRUCT in `RESET`. -/
theorem Performs.rdg_cases {i : Instr} {s t : State} (h : Performs i s t) :
    t.rdg = s.rdg ∨
      (i = .commit ∧ t.env.now = s.env.nextClock ∧
        t.rdg = ⟨true, humidityOf s.wk.bytes, temperatureOf s.wk.bytes, s.env.nextClock⟩) ∨
      (t.rdg = { s.rdg with valid := false } ∧
        (i = .close ∧ t.phase = .closed ∨ i.isConstruct = true ∧ s.phase = .reset)) := by
  cases h with
  | committed => exact .inr (.inl ⟨rfl, rfl, rfl⟩)
  | closed => exact .inr (.inr ⟨rfl, .inl ⟨rfl, rfl⟩⟩)
  | constructed hp => exact .inr (.inr ⟨rfl, .inr ⟨rfl, hp⟩⟩)
  | _ => exact .inl rfl

/-- Settles O46, from the three things an execution can do to the Reading. -/
theorem onlyCommitWritesTheReading : Obligations.OnlyCommitWritesTheReading := by
  intro i s t h
  obtain heq | ⟨rfl, -, heq⟩ | ⟨heq, hi⟩ := (exec_performs h).rdg_cases
  · rw [heq]
    exact ⟨fun _ => ⟨rfl, rfl, rfl⟩, fun _ hv => hv, fun hv hv' => by cases hv.symm.trans hv'⟩
  · simp [heq]
  · rw [heq]
    exact ⟨fun _ => ⟨rfl, rfl, rfl⟩, nofun, fun _ _ => hi.imp And.left And.left⟩

/-- Settles O48, outcome by outcome: POLL, CLASSIFY and DECODE keep the registers of each other in their own updates of
`wk`, and `ok` is set by the start of a cycle, its faults and COMMIT. -/
theorem workingRegistersHaveTheirWriters : Obligations.WorkingRegistersHaveTheirWriters := by
  intro i s t h
  cases exec_performs h with
  | cycleStarted hi => simp [hi]
  | tooShort | classified => simp [classifyWork]
  | accepted | mismatched => simp [decoded]
  | _ => simp

theorem Performs.par {i : Instr} {s t : State} (h : Performs i s t) : t.par = s.par := by
  cases h <;> rfl

theorem Performs.cmds {i : Instr} {s t : State} (h : Performs i s t) : t.port.cmds = s.port.cmds := by
  cases h <;> rfl

/-- CONSTRUCT writes CFG, in `RESET`, and goes to `CAL`; no other outcome does. -/
theorem Performs.cfg {i : Instr} {s t : State} (h : Performs i s t) (hc : t.cfg ≠ s.cfg) :
    i.isConstruct = true ∧ s.phase = .reset ∧ t.phase ≠ .reset := by
  cases h with
  | constructed hp => exact ⟨rfl, hp, nofun⟩
  | _ => exact absurd rfl hc

/-- No outcome enters `RESET`. -/
theorem Performs.phase_of_reset {i : Instr} {s t : State} (h : Performs i s t) (ht : t.phase = .reset) :
    s.phase = .reset := by
  cases h
  case refused | answered | held | heldHigh | heldLow | sampledFirst | sampledSame | sampledEdge => exact ht
  all_goals cases ht

theorem Performs.delays {i : Instr} {s t : State} (h : Performs i s t) (h1 : i ≠ .handshake1) (h2 : i ≠ .handshake2) :
    t.env.delays = s.env.delays := by
  cases h with
  | answered _ _ he | cycleStarted _ _ he => exact he.delays
  | drivenHigh | heldHigh => exact absurd rfl h1
  | drivenLow | heldLow => exact absurd rfl h2
  | _ => rfl

/-- Settles O52, clause by clause. -/
theorem configurationIsWrittenOnce : Obligations.ConfigurationIsWrittenOnce := by
  intro i s t h
  have hp := exec_performs h
  exact ⟨hp.cfg, hp.phase_of_reset, hp.par, hp.cmds, hp.delays⟩

end Sys2Proof.Machine
end

section
/-! PROOFS, 10_state.md, part 5. Every step keeps the invariant, moves the phase by R19's table and keeps the rules
of RDG. -/

namespace Sys2Proof.Machine

/-! ### Where a step performs its instruction -/

/-- The phases that select no stage (R71). -/
def Phase.Rests (p : Phase) : Prop := p = .reset ∨ p = .dead ∨ p = .idle ∨ p = .closed

/-- A step of `s` may perform `i`: the stage its phase selects, or in a resting phase a host operation, the one in
progress or one taken while none is. -/
def State.Due (s : State) (i : Instr) : Prop :=
  i.stage? = some s.phase ∨
    i.stage? = none ∧ s.phase.Rests ∧ ∀ j, s.seq.pending = some j → j = i

theorem State.Due.phase_eq {s : State} {i : Instr} {p : Phase} (h : s.Due i) (hi : i.stage? = some p) :
    s.phase = p := by
  obtain hs | ⟨hs, -⟩ := h
  · exact Option.some.inj (hs.symm.trans hi)
  · cases hs.symm.trans hi

theorem State.Due.rests {s : State} {i : Instr} (h : s.Due i) (hi : i.stage? = none) :
    s.phase.Rests ∧ ∀ j, s.seq.pending = some j → j = i := by
  obtain hs | ⟨-, hr⟩ := h
  · cases hs.symm.trans hi
  · exact hr

/-- `u` is `s` but for the port and the environment, where the clock has not gone back: what a step does before it
performs anything. -/
structure State.SameBlock (s u : State) : Prop where
  eq : u = { s with port := u.port, env := u.env }
  now_le : s.env.now ≤ u.env.now

theorem Env.tick_now (e : Env) : e.tick.now = e.now := by
  unfold Env.tick
  split <;> rfl

theorem State.sameBlock_ticked (s : State) : s.SameBlock s.ticked := ⟨rfl, (Env.tick_now _).ge⟩

theorem State.sameBlock_takeCmd (s : State) : s.SameBlock s.ticked.takeCmd := ⟨rfl, (Env.tick_now _).ge⟩

theorem State.sameBlock_refuse (s : State) : s.SameBlock s.ticked.takeCmd.refuse := ⟨rfl, (Env.tick_now _).ge⟩

theorem State.Inv.of_sameBlock {s u : State} (h : s.Inv) (hu : s.SameBlock u) : u.Inv := by
  rw [hu.eq]
  exact { h with stamp := fun hv => (h.stamp hv).trans hu.now_le }

theorem stage?_of_runsCycle {i : Instr} (h : i.runsCycle = true) : i.stage? = none := by
  cases i with
  | tempc | tempf | humid | since | force => rfl
  | _ => cases h

theorem stage?_of_isConstruct {i : Instr} (h : i.isConstruct = true) : i.stage? = none := by
  cases i with
  | construct => rfl
  | _ => cases h

theorem rests_of_decodeStage {p : Phase} {c : BitVec 4} (h : decodeStage p.code = .restingPhase c) : p.Rests := by
  cases p with
  | reset | dead | idle | closed => simp [Phase.Rests]
  | _ => cases h

/-- In a resting phase the operation in progress is a host operation. -/
theorem State.Inv.stage?_pending {s : State} {i : Instr} (h : s.Inv) (hr : s.phase.Rests)
    (hp : s.seq.pending = some i) : i.stage? = none := by
  rcases hr with hr | hr | hr | hr
  · simp [h.atRest (.inl hr)] at hp
  · exact stage?_of_isConstruct (h.inDead i hr hp)
  · exact (h.inIdle i hr hp).elim stage?_of_isConstruct stage?_of_runsCycle
  · simp [h.atRest (.inr hr)] at hp

/-- A step that is no hardware reset leaves a resting block as it is, or performs what is due. -/
theorem step_performs {s t : State} (h : s.Inv) (hr : s.env.resetNow = false) (hs : step s = .next t) :
    s.phase.Rests ∧ s.SameBlock t ∨ ∃ i u, s.SameBlock u ∧ u.Due i ∧ Performs i u t := by
  obtain ⟨i, hi, -⟩ | ⟨hrest, hf⟩ := fetch_cases s
  · rw [step_of_stage hr hi] at hs
    exact .inr ⟨i, _, s.sameBlock_ticked, .inl (stage?_of_decodeStage hi), exec_performs hs⟩
  have rests := rests_of_decodeStage hrest
  obtain ⟨i, hp, -⟩ | ⟨hp, hc, -⟩ | ⟨hp, c, rest, hc, ⟨i, hi, -⟩ | ⟨hi, -⟩⟩ := hf
  · rw [step_of_pending hr hrest hp] at hs
    refine .inr ⟨i, _, s.sameBlock_ticked, .inr ⟨h.stage?_pending rests hp, rests, fun j hj => ?_⟩, exec_performs hs⟩
    exact Option.some.inj (hj.symm.trans hp)
  · rw [step_of_quiet hr hrest hp hc] at hs
    cases hs
    exact .inl ⟨rests, s.sameBlock_ticked⟩
  · rw [step_of_command hr hrest hp hc hi] at hs
    refine .inr ⟨i, _, s.sameBlock_takeCmd, .inr ⟨stage?_of_decodeHostCmd hi, rests, fun j hj => ?_⟩, exec_performs hs⟩
    cases hj.symm.trans hp
  · rw [step_of_reserved hr hrest hp hc hi] at hs
    cases hs
    exact .inl ⟨rests, s.sameBlock_refuse⟩

/-! ### The invariant -/

/-- A block in `RESET` meets the invariant whatever its other registers hold. -/
theorem State.inv_reset {s : State} (hp : s.phase = .reset) (hc : 1 ≤ s.par.calReads) (hu : s.Unconfigured) : s.Inv :=
  State.inv_of_holds ⟨hc, by simp [hu.valid], by simp [hu.valid]⟩ (by rw [hp]; exact hu)

/-- Settles O56: the state after reset is an unconfigured block in `RESET` with a positive `CAL_READS`. -/
theorem resetMeetsTheInvariant : Obligations.ResetMeetsTheInvariant :=
  State.inv_reset rfl (by decide) ⟨rfl, rfl, rfl, rfl, rfl⟩

theorem State.Inv.hardwareReset {s : State} (h : s.Inv) : s.hardwareReset.Inv :=
  State.inv_reset rfl h.calReads ⟨rfl, rfl, rfl, rfl, rfl⟩

theorem now_le_measured (s : State) : s.env.now ≤ (measured s).env.now :=
  Nat.le_trans s.env.now_le_nextClock (Nat.le_add_right _ _)

theorem humidityOf_toNat (b : Vector Byte 5) : (humidityOf b).toNat = 10 * b[0].toNat + b[1].toNat := by
  have := b[0].isLt
  have := b[1].isLt
  simp only [humidityOf, BitVec.toNat_ofNat]
  omega

theorem temperatureOf_toNat (b : Vector Byte 5) : (temperatureOf b).toNat = 10 * b[2].toNat + b[3].toNat := by
  have := b[2].isLt
  have := b[3].isLt
  simp only [temperatureOf, BitVec.toNat_ofNat]
  omega

/-- The clock never goes back, whatever is performed. -/
theorem Performs.now_le {i : Instr} {s t : State} (h : Performs i s t) : s.env.now ≤ t.env.now := by
  cases h with
  | answered _ _ he | cycleStarted _ _ he => exact he.now_le
  | calibrationFailed | calibrated => exact now_le_measured s
  | committed => exact s.env.now_le_nextClock
  | _ => exact le_rfl

/-- A Reading is only ever written by COMMIT, from two bytes a value and the clock. -/
theorem Performs.common {i : Instr} {s t : State} (h : Performs i s t) (hc : s.Common) : t.Common := by
  refine ⟨h.par ▸ hc.calReads, ?_, ?_⟩ <;> obtain heq | ⟨-, hn, heq⟩ | ⟨heq, -⟩ := h.rdg_cases <;> rw [heq]
  · exact fun hv => (hc.stamp hv).trans h.now_le
  · exact fun _ => hn.ge
  · nofun
  · exact hc.range
  · intro _
    have := s.wk.bytes[0].isLt
    have := s.wk.bytes[1].isLt
    have := s.wk.bytes[2].isLt
    have := s.wk.bytes[3].isLt
    rw [humidityOf_toNat, temperatureOf_toNat]
    omega
  · nofun

theorem Phase.holds_phase {t : State} {p : Phase} (ht : t.phase = p) (h : p.Holds t) : t.phase.Holds t := ht ▸ h

/-- A response in a resting phase, the operation in progress being over. -/
theorem State.Inv.holds_finish {s : State} (h : s.Inv) (hr : s.phase.Rests) (e : Env) (r : Response) :
    s.phase.Holds ((s.setEnv e).finish r) := by
  rcases hr with hp | hp | hp | hp <;> have hs := h.holds hp <;> rw [hp]
  · exact ⟨hs.owned, hs.valid, rfl, hs.still⟩
  · exact ⟨hs.owned, hs.valid, nofun, hs.still, hs.fault⟩
  · exact ⟨hs.owned, hs.bound, nofun, hs.still, nofun⟩
  · exact ⟨hs.owned, hs.valid, rfl, hs.still⟩

/-- CLOSE is accepted only while no operation is in progress. -/
theorem State.Inv.pending_of_close {s : State} (h : s.Inv) (hd : s.Due .close)
    (hp : s.phase = .idle ∨ s.phase = .dead) : s.seq.pending = none := by
  refine Option.eq_none_iff_forall_ne_some.2 fun j hj => ?_
  obtain rfl := (hd.rests rfl).2 j hj
  rcases hp with hp | hp
  · simpa [Instr.isConstruct, Instr.runsCycle] using h.inIdle _ hp hj
  · cases h.inDead _ hp hj

/-- The end of a read cycle, `ok` telling whether a fault was raised. -/
theorem State.Cycling.idle {s t : State} (h : s.Cycling) (still : s.seq.Still) (hpin : t.pin = s.pin)
    (hcal : t.cal = s.cal) (hseq : t.seq = s.seq) (outcome : t.wk.ok = true ↔ t.diag.lastFault = 0) : t.Idle := by
  obtain ⟨j, hj, hc⟩ := h.pending
  refine ⟨hpin ▸ h.owned, hcal ▸ h.bound, fun k hk => ?_, hseq ▸ still, fun _ _ _ => outcome⟩
  rw [hseq] at hk
  cases hj.symm.trans hk
  exact .inr hc

/-- What is performed where it is due ends with what the new phase asks for. -/
theorem Performs.holds {i : Instr} {s t : State} (h : Performs i s t) (hs : s.Inv) (hd : s.Due i) :
    t.phase.Holds t := by
  cases h with
  | refused => exact (hs.of_sameBlock (u := s.refuse) ⟨rfl, le_rfl⟩).holds rfl
  | held => exact hs.holds rfl
  | answered r hi => exact hs.holds_finish (hd.rests hi).1 _ _
  | cycleStarted hi hp =>
    have idle := hs.holds hp
    exact ⟨⟨idle.owned, idle.bound, ⟨i, rfl, hi⟩, rfl, rfl⟩, rfl, nofun⟩
  | constructed hp => exact ⟨rfl, rfl, ⟨_, rfl, rfl⟩, (hs.holds hp).still⟩
  | closed hp =>
    refine ⟨rfl, rfl, hs.pending_of_close hd hp, ?_⟩
    exact hp.elim (fun hp => (hs.holds hp).still) fun hp => (hs.holds hp).still
  | calibrationFailed =>
    obtain ⟨owned, valid, ⟨j, hj, hc⟩, still⟩ := hs.holds (hd.phase_eq rfl)
    refine ⟨owned, valid, fun k hk => ?_, still, rfl⟩
    cases hj.symm.trans hk
    exact hc
  | calibrated hb =>
    obtain ⟨owned, valid, ⟨j, hj, hc⟩, still⟩ := hs.holds (hd.phase_eq rfl)
    refine ⟨owned, hb, fun k hk => ?_, still, fun k hk hr => ?_⟩ <;> cases hj.symm.trans hk
    · exact .inl hc
    · cases (Instr.runsCycle_of_isConstruct hc).symm.trans hr
  | drivenHigh hret =>
    obtain ⟨cyc, loop, -⟩ := hs.holds (hd.phase_eq rfl)
    exact ⟨{ cyc with }, loop, rfl, rfl, by simp [hret]⟩
  | heldHigh =>
    have hp := hd.phase_eq rfl
    obtain ⟨cyc, loop, -⟩ := hs.holds hp
    exact Phase.holds_phase hp ⟨{ cyc with }, loop, fun _ => ⟨rfl, rfl, rfl⟩⟩
  | drivenLow hret =>
    obtain ⟨cyc, loop, dir, pull, -⟩ := hs.holds (hd.phase_eq rfl)
    exact ⟨{ cyc with }, ⟨loop, by simp [hret]⟩, dir, pull, rfl⟩
  | heldLow =>
    have hp := hd.phase_eq rfl
    obtain ⟨cyc, loop, dir, pull, -⟩ := hs.holds hp
    exact Phase.holds_phase hp ⟨{ cyc with }, loop, dir, pull, fun _ => rfl⟩
  | released =>
    obtain ⟨cyc, ⟨-, hold⟩, -, -, out⟩ := hs.holds (hd.phase_eq rfl)
    exact ⟨{ cyc with }, hold, ⟨rfl, rfl, out⟩, nofun⟩
  | sampledFirst =>
    have hp := hd.phase_eq rfl
    obtain ⟨cyc, hold, rel, -⟩ := hs.holds hp
    exact Phase.holds_phase hp ⟨{ cyc with }, hold, rel, fun _ => ⟨cyc.bound, rfl⟩⟩
  | sampledSame hq hb =>
    have hp := hd.phase_eq rfl
    obtain ⟨cyc, hold, rel, counting⟩ := hs.holds hp
    obtain ⟨cnt, raw⟩ := counting hq
    exact Phase.holds_phase hp ⟨{ cyc with }, hold, rel, fun _ => ⟨Nat.lt_of_le_of_ne cnt hb, raw⟩⟩
  | sampledEdge hq =>
    have hp := hd.phase_eq rfl
    obtain ⟨cyc, hold, rel, counting⟩ := hs.holds hp
    obtain ⟨cnt, raw⟩ := counting hq
    exact Phase.holds_phase hp ⟨{ cyc with }, hold, rel, fun _ => ⟨cyc.bound, Memory.wf_append raw cnt⟩⟩
  | captured hq hb =>
    obtain ⟨cyc, hold, rel, counting⟩ := hs.holds (hd.phase_eq rfl)
    exact ⟨{ cyc with }, ⟨rfl, hold⟩, rel, hb, (counting hq).2, rfl, rfl⟩
  | tooShort =>
    obtain ⟨cyc, still, -⟩ := hs.holds (hd.phase_eq rfl)
    exact cyc.idle still rfl rfl rfl (by simp)
  | classified tail =>
    obtain ⟨cyc, still, rel, -⟩ := hs.holds (hd.phase_eq rfl)
    exact ⟨{ cyc with }, still, rel⟩
  | accepted hsum =>
    obtain ⟨cyc, still, rel⟩ := hs.holds (hd.phase_eq rfl)
    exact ⟨{ cyc with }, still, rel, hsum, rfl⟩
  | mismatched =>
    obtain ⟨cyc, still, -⟩ := hs.holds (hd.phase_eq rfl)
    exact cyc.idle still rfl rfl rfl (by simp)
  | committed =>
    obtain ⟨cyc, still, -⟩ := hs.holds (hd.phase_eq rfl)
    exact cyc.idle still rfl rfl rfl (iff_of_true rfl cyc.fault)

theorem Performs.inv {i : Instr} {s t : State} (h : Performs i s t) (hs : s.Inv) (hd : s.Due i) : t.Inv :=
  State.inv_of_holds (h.common hs.common) (h.holds hs hd)

/-- Settles O55: a hardware reset gives the invariant outright, any other step keeps it by what it performs. -/
theorem stepKeepsTheInvariant : Obligations.StepKeepsTheInvariant := by
  intro s t h hs
  cases hr : s.env.resetNow with
  | true =>
    rw [step_of_resetNow hr] at hs
    cases hs
    exact (h.of_sameBlock s.sameBlock_ticked).hardwareReset
  | false =>
    obtain ⟨-, same⟩ | ⟨i, u, same, due, performs⟩ := step_performs h hr hs
    · exact h.of_sameBlock same
    · exact performs.inv (h.of_sameBlock same) due

/-! ### The phase -/

theorem Phase.Rests.mayFollow_self {p : Phase} (h : p.Rests) : p.mayFollow p = true := by
  rcases h with rfl | rfl | rfl | rfl <;> rfl

/-- What is performed where it is due moves the phase as the table says. -/
theorem Performs.mayFollow {i : Instr} {s t : State} (h : Performs i s t) (hd : s.Due i) :
    s.phase.mayFollow t.phase = true := by
  cases h with
  | refused hi | answered _ hi => exact (hd.rests hi).1.mayFollow_self
  | cycleStarted _ hp | constructed hp => rw [hp]; rfl
  | closed hp => rcases hp with hp | hp <;> rw [hp] <;> rfl
  | held hi => rcases hi with rfl | rfl <;> rw [hd.phase_eq rfl] <;> rfl
  | _ => rw [hd.phase_eq rfl]; rfl

/-- Settles O54: the instruction performed is the one the phase lets through, and a step that performs none leaves a
resting phase as it is. -/
theorem phaseFollowsTheTable : Obligations.PhaseFollowsTheTable := by
  intro s t h hs
  refine ⟨fun hr => ?_, fun hr => ?_⟩
  · obtain ⟨rests, same⟩ | ⟨i, u, same, due, performs⟩ := step_performs h hr hs
    · rw [same.eq]
      exact rests.mayFollow_self
    · have := performs.mayFollow due
      rwa [same.eq] at this
  · rw [step_of_resetNow hr] at hs
    cases hs
    rfl

/-! ### The Reading -/

theorem State.Due.eq_commit {s : State} {i : Instr} (h : s.Due i) (hp : s.phase = .commit) : i = .commit := by
  obtain hs | ⟨-, hr, -⟩ := h
  · rw [hp] at hs
    cases i <;> cases hs
    rfl
  · simp [hp, Phase.Rests] at hr

/-- R24 (a): a new timestamp is a later clock answer. -/
theorem Performs.ts_le {i : Instr} {s t : State} (h : Performs i s t) (hs : s.Inv) (hv : s.rdg.valid = true) :
    s.rdg.ts ≤ t.rdg.ts := by
  obtain heq | ⟨-, -, heq⟩ | ⟨heq, -⟩ := h.rdg_cases <;> rw [heq]
  exact (hs.stamp hv).trans s.env.now_le_nextClock

/-- R24 (b): COMMIT writes the four fields together. -/
theorem Performs.rdg_commit {s t : State} (h : Performs .commit s t) :
    t.rdg = ⟨true, humidityOf s.wk.bytes, temperatureOf s.wk.bytes, t.env.now⟩ := by
  cases h with
  | committed => rfl
  | refused hi | answered _ hi | cycleStarted hi => cases hi
  | held hi => simp at hi

/-- R24 (c): nothing else that ends outside `CLOSED` touches the Reading; CONSTRUCT runs where none is valid. -/
theorem Performs.rdg_eq {i : Instr} {s t : State} (h : Performs i s t) (hs : s.Inv) (hi : i ≠ .commit)
    (hp : t.phase ≠ .closed) : t.rdg = s.rdg := by
  obtain heq | ⟨rfl, -⟩ | ⟨heq, ⟨-, hc⟩ | ⟨-, hr⟩⟩ := h.rdg_cases
  · exact heq
  · exact absurd rfl hi
  · exact absurd hc hp
  · rw [heq, ← (hs.holds hr).valid]

/-- Settles O47, rule by rule of R24. -/
theorem readingInvariants : Obligations.ReadingInvariants := by
  intro s t h hr hs
  obtain ⟨rests, same⟩ | ⟨i, u, same, due, performs⟩ := step_performs h hr hs
  · have hrdg : t.rdg = s.rdg := by rw [same.eq]
    refine ⟨fun _ _ => by rw [hrdg], fun hp => ?_, fun _ _ => hrdg⟩
    simp [hp, Phase.Rests] at rests
  · have inv := h.of_sameBlock same
    have hphase : u.phase = s.phase := by rw [same.eq]
    have hrdg : u.rdg = s.rdg := by rw [same.eq]
    have hwk : u.wk = s.wk := by rw [same.eq]
    rw [← hphase, ← hrdg, ← hwk]
    refine ⟨fun hv _ => performs.ts_le inv hv, fun hp => ?_, fun hp hc => performs.rdg_eq inv ?_ hc⟩
    · cases due.eq_commit hp
      rw [performs.rdg_commit]
      exact ⟨rfl, humidityOf_toNat _, temperatureOf_toNat _, rfl⟩
    · rintro rfl
      exact hp (due.phase_eq rfl)

end Sys2Proof.Machine
end

section
/-! PROOFS, 20_memory.md. The two things outside the registers an instruction may reach: the buffer, written by POLL
alone (R42), and the pin, called by the handshake and read by CALIBRATE and POLL (R46). -/

namespace Sys2Proof.Machine

/-! ### The buffer -/

theorem Performs.raw {i : Instr} {s t : State} (h : Performs i s t) (hi : i ≠ .poll) : t.raw = s.raw := by
  cases h with
  | sampledFirst | sampledSame | sampledEdge | captured => exact absurd rfl hi
  | _ => rfl

/-- Settles O49, along the four cases of POLL: the first sample empties the buffer, an equal sample keeps it whether or
not it ends the loop, an edge appends. -/
theorem onlyPollStores : Obligations.OnlyPollStores := by
  intro i s t h
  refine ⟨(exec_performs h).raw, ?_⟩
  by_cases hi : i = .poll
  · subst hi
    obtain ⟨hq, heq⟩ | ⟨hq, hl, -, heq⟩ | ⟨hq, hl, -, heq⟩ | ⟨hq, hl, heq⟩ := execPoll_cases s <;>
      cases heq.symm.trans h
    · simp [hq, pollFirst]
    · simp [hq, hl, pollExit, pollSame]
    · simp [hq, hl, pollSame]
    · have hread : ∀ addr, addr < s.raw.length → (s.raw.append s.wk.cnt).read addr = s.raw.read addr :=
        fun _ => Memory.read_append_lt
      simpa [hq, hl, pollEdge, Memory.read_append_eq] using hread
  · simp [hi]

/-! ### The pin -/

theorem Env.ClockedTo.calls {e e' : Env} (h : e.ClockedTo e') : e'.calls = e.calls := by rw [h.frame]

theorem Env.ClockedTo.pinReads {e e' : Env} (h : e.ClockedTo e') : e'.pinReads = e.pinReads := by rw [h.frame]

theorem Env.ClockedTo.levels {e e' : Env} (h : e.ClockedTo e') : e'.levels = e.levels := by rw [h.frame]

/-- Outside the handshake no call is issued and the pin stays as driven; only its ownership may change. -/
theorem Performs.pin_of_not_handshake {i : Instr} {s t : State} (h : Performs i s t) (h1 : i ≠ .handshake1)
    (h2 : i ≠ .handshake2) (h3 : i ≠ .handshake3) :
    t.env.calls = s.env.calls ∧ t.pin.dir = s.pin.dir ∧ t.pin.pull = s.pin.pull ∧ t.pin.out = s.pin.out := by
  cases h with
  | answered _ _ he | cycleStarted _ _ he => exact ⟨he.calls, rfl, rfl, rfl⟩
  | drivenHigh | heldHigh => exact absurd rfl h1
  | drivenLow | heldLow => exact absurd rfl h2
  | released => exact absurd rfl h3
  | _ => exact ⟨rfl, rfl, rfl, rfl⟩

/-- The calls one execution adds are pin calls on `CFG.pin` and `Delay` calls (R46, R92 to R94). -/
theorem Performs.calls {i : Instr} {s t : State} (h : Performs i s t) :
    ∃ new, t.env.calls = s.env.calls ++ new ∧
      ∀ c ∈ new, (∃ d p, c = .setMode s.cfg.pin d p) ∨ (∃ l, c = .write s.cfg.pin l) ∨ ∃ ms, c = .delay ms := by
  cases h with
  | answered _ _ he | cycleStarted _ _ he => exact ⟨[], by simp [he.calls], by simp⟩
  | drivenHigh | heldHigh =>
    exact ⟨[.setMode s.cfg.pin .output .none, .write s.cfg.pin .high, .delay s.par.tIdleMs], by simp, by simp⟩
  | drivenLow | heldLow => exact ⟨[.write s.cfg.pin .low, .delay s.par.tStartMs], by simp, by simp⟩
  | released => exact ⟨[.setMode s.cfg.pin .input .up], rfl, by simp⟩
  | _ => exact ⟨[], (List.append_nil _).symm, by simp⟩

/-- How many `PinRead()` calls one execution of `i` makes (R46). -/
def State.readsOf (s : State) (i : Instr) : Nat :=
  if i = .poll then 1 else if i = .calibrate then s.par.calReads else 0

theorem State.readsOf_eq_zero {s : State} {i : Instr} (hp : i ≠ .poll) (hc : i ≠ .calibrate) : s.readsOf i = 0 := by
  simp [State.readsOf, hp, hc]

theorem State.readsOf_of_stage?_none {s : State} {i : Instr} (hi : i.stage? = none) : s.readsOf i = 0 :=
  State.readsOf_eq_zero (by rintro rfl; cases hi) (by rintro rfl; cases hi)

theorem State.readsOf_of_hold {s : State} {i : Instr} (hi : i = .handshake1 ∨ i = .handshake2) : s.readsOf i = 0 := by
  obtain rfl | rfl := hi <;> rfl

/-- Each read consumes one answer, and nothing else does. -/
theorem Performs.reads {i : Instr} {s t : State} (h : Performs i s t) :
    t.env.pinReads = s.env.pinReads + s.readsOf i ∧ t.env.levels = s.env.levels.drop (s.readsOf i) := by
  cases h with
  | refused hi => simp [State.readsOf_of_stage?_none hi]
  | answered _ hi he => simp [State.readsOf_of_stage?_none hi, he.pinReads, he.levels]
  | cycleStarted hi _ he => simp [State.readsOf_of_stage?_none (stage?_of_runsCycle hi), he.pinReads, he.levels]
  | held hi => simp [State.readsOf_of_hold hi]
  | sampledFirst | sampledSame | sampledEdge | captured => exact ⟨rfl, List.drop_one.symm⟩
  | calibrationFailed | calibrated => exact ⟨rfl, rfl⟩
  | _ => exact ⟨rfl, rfl⟩

/-- Settles O50, clause by clause. -/
theorem pinIsReachedOnlyByItsStages : Obligations.PinIsReachedOnlyByItsStages := by
  intro i s t h
  have hp := exec_performs h
  exact ⟨hp.pin_of_not_handshake, hp.calls, s.readsOf i, rfl, hp.reads⟩

end Sys2Proof.Machine
end

section
/-! PROOFS, 30_encoding.md. The two formats: instructions read back from their words, the reserved operation codes, the
packing of bits into bytes, and the host operations refused in a phase that does not accept them. -/

namespace Sys2Proof.Machine

/-! ### Words (R69 to R71, R73 a) -/

/-- Settles O1: one round trip per row of the opcode table. -/
theorem decodeOfEncodeIsIdentity : Obligations.DecodeOfEncodeIsIdentity := fun i =>
  match i with
  | .construct p c w => Laws.RoundTrip.construct p c w
  | .tempc => Laws.RoundTrip.tempc
  | .tempf => Laws.RoundTrip.tempf
  | .humid => Laws.RoundTrip.humid
  | .since => Laws.RoundTrip.since
  | .force => Laws.RoundTrip.force
  | .close => Laws.RoundTrip.close
  | .calibrate => Laws.RoundTrip.calibrate
  | .handshake1 => Laws.RoundTrip.handshake1
  | .handshake2 => Laws.RoundTrip.handshake2
  | .handshake3 => Laws.RoundTrip.handshake3
  | .poll => Laws.RoundTrip.poll
  | .classify => Laws.RoundTrip.classify
  | .decode => Laws.RoundTrip.decode
  | .commit => Laws.RoundTrip.commit

/-- Settles O3: each word of the table is what the encoder writes for its instruction. -/
theorem tableWordsDecode : Obligations.TableWordsDecode :=
  ⟨decodeOfEncodeIsIdentity (.construct 4 false 2) rfl, decodeOfEncodeIsIdentity .tempc rfl,
    decodeOfEncodeIsIdentity .force rfl, decodeOfEncodeIsIdentity .calibrate rfl,
    decodeOfEncodeIsIdentity .handshake1 rfl, decodeOfEncodeIsIdentity .poll rfl,
    decodeOfEncodeIsIdentity .classify rfl, decodeOfEncodeIsIdentity .commit rfl⟩

/-- Settles O4: the seven assigned codes each have an instruction, and the decoder's last case is all the others. -/
theorem reservedOperationCodes : Obligations.ReservedOperationCodes := by
  intro c
  unfold decodeHostCmd
  split
  case h_8 =>
    simp only [imp_false, true_iff] at *
    omega
  all_goals next hop => simp [hop]

/-! ### Bytes (R63) -/

/-- A number is the sum of its bits by weight. -/
theorem ofBits_eq_sum {n : Nat} (f : Fin n → Bool) : Nat.ofBits f = ∑ k : Fin n, (f k).toNat * 2 ^ k.val := by
  induction n with
  | zero => rfl
  | succ n ih =>
    rw [Nat.ofBits_succ, ih, Fin.sum_univ_succ, Finset.mul_sum, add_comm]
    simp [pow_succ, mul_comm, mul_left_comm]

/-- The weights of a byte whose first bit is the most significant. -/
theorem toNat_ofFnBE_eq_sum (f : Fin 8 → Bool) :
    (BitVec.ofFnBE f).toNat = ∑ k : Fin 8, (f k).toNat * 2 ^ (7 - k.val) := by
  rw [BitVec.toNat_ofFnBE, ofBits_eq_sum, ← Equiv.sum_comp Fin.revPerm]
  simp [Fin.val_rev]

/-- A byte is the big-endian word of its eight bits. -/
theorem byteAt_eq_ofFnBE (bits : Vector Bool 40) (i : Fin 5) :
    byteAt bits i = BitVec.ofFnBE fun k : Fin 8 => bits[8 * i.val + k.val] := by
  rw [byteAt, List.sum_ofFn, ← toNat_ofFnBE_eq_sum, BitVec.ofNat_toNat, BitVec.setWidth_eq]

/-- Settles O33: the weights and the places of a big-endian word. -/
theorem bytesArePackedMsbFirst : Obligations.BytesArePackedMsbFirst := by
  intro bits i
  rw [byteAt_eq_ofFnBE]
  refine ⟨toNat_ofFnBE_eq_sum _, fun k => ?_⟩
  have hrev : k.rev.val = 7 - k.val := by
    rw [Fin.val_rev]
    omega
  rw [← hrev, BitVec.getLsbD_ofFnBE, dif_pos k.rev.isLt, Fin.eta, Fin.rev_rev]

/-! ### Operations in a phase that does not accept them (R73 b) -/

theorem execConstruct_refuses {p w : Nat} {c : Bool} {s : State} (hp : s.phase ≠ .reset)
    (hn : s.seq.pending ≠ some (.construct p c w)) : execConstruct p c w s = .next s.refuse := by
  obtain ⟨hr, -⟩ | ⟨hr, -⟩ | ⟨-, hreset, -⟩ | ⟨-, -, heq⟩ := execConstruct_cases p c w s
  · exact absurd ((resuming_iff _ _).1 hr) hn
  · exact absurd ((resuming_iff _ _).1 hr) hn
  · exact absurd hreset hp
  · exact heq

theorem access_refuses {op : Instr} {deliver : State → State} {s : State} (hp : s.phase ≠ .idle)
    (hn : s.seq.pending ≠ some op) : access op deliver s = s.refuse := by
  obtain ⟨hr, -⟩ | ⟨-, hidle, -⟩ | ⟨-, hidle, -⟩ | ⟨-, -, heq⟩ := access_cases op deliver s
  · exact absurd ((resuming_iff _ _).1 hr) hn
  · exact absurd hidle hp
  · exact absurd hidle hp
  · exact heq

theorem execForce_refuses {s : State} (hp : s.phase ≠ .idle) (hn : s.seq.pending ≠ some .force) :
    execForce s = .next s.refuse := by
  obtain ⟨hr, -⟩ | ⟨hr, -⟩ | ⟨-, hidle, -⟩ | ⟨-, -, heq⟩ := execForce_cases s
  · exact absurd ((resuming_iff _ _).1 hr) hn
  · exact absurd ((resuming_iff _ _).1 hr) hn
  · exact absurd hidle hp
  · exact heq

theorem execClose_refuses {s : State} (hi : s.phase ≠ .idle) (hd : s.phase ≠ .dead) :
    execClose s = .next s.refuse := by
  obtain ⟨hp, -⟩ | ⟨-, -, heq⟩ := execClose_cases s
  · exact absurd hp (not_or.2 ⟨hi, hd⟩)
  · exact heq

/-- An operation that runs a read cycle is refused outside `IDLE` unless it is the one in progress. -/
theorem exec_runsCycle_refuses {i : Instr} {s : State} (hc : i.runsCycle = true) (hp : s.phase ≠ .idle)
    (hn : s.seq.pending ≠ some i) : exec i s = .next s.refuse := by
  cases i with
  | tempc | tempf | humid | since => exact congrArg _ (access_refuses hp hn)
  | force => exact execForce_refuses hp hn
  | _ => cases hc

/-- Settles O11: the three kinds of operations, each by its refusal. -/
theorem wrongPhaseIsRefused : Obligations.WrongPhaseIsRefused :=
  ⟨fun _ _ _ _ => execConstruct_refuses, fun _ _ => exec_runsCycle_refuses, fun _ => execClose_refuses⟩

end Sys2Proof.Machine
end

section
/-! PROOFS, 40_calibrate.md. CALIBRATE by the duration it measures, CONSTRUCT at its call and at its return, and the
three steps that take a CONSTRUCT from the port to its response. -/

namespace Sys2Proof.Machine

/-! ### CALIBRATE (R82 to R87) -/

theorem loopBound_eq_zero_iff {n t : Nat} (ht : t ≠ 0) : loopBound n t = 0 ↔ 150000 * n < t := by
  simp [loopBound, Config.intervalNs, Nat.div_eq_zero_iff, ht]

/-- R85: a duration of 0, or one longer than the interval for each read. -/
theorem execCalibrate_of_failure {s : State}
    (h : measuredDuration s = 0 ∨ 150000 * s.par.calReads < measuredDuration s) :
    execCalibrate s = .next ((measured s).raise (.calibrationFailure (measuredDuration s))) := by
  obtain ⟨-, heq⟩ | ⟨hT, hb, -⟩ := execCalibrate_cases s
  · exact heq
  · exact absurd h (not_or.2 ⟨hT, mt (loopBound_eq_zero_iff hT).2 hb⟩)

/-- R84: any other duration. -/
theorem execCalibrate_of_success {s : State} (h0 : 0 < measuredDuration s)
    (hle : measuredDuration s ≤ 150000 * s.par.calReads) :
    execCalibrate s =
      .next (((measured s).setCal { maxIterations := 150000 * s.par.calReads / measuredDuration s }).setPhase .idle) := by
  obtain ⟨hT | hb, -⟩ | ⟨-, -, heq⟩ := execCalibrate_cases s
  · exact absurd hT h0.ne'
  · exact absurd ((loopBound_eq_zero_iff h0.ne').1 hb) hle.not_gt
  · exact heq

/-- Settles O15: the two inequalities of the floor are those of the natural quotient, the rest is `measured`. -/
theorem calibrateWritesTheFloor : Obligations.CalibrateWritesTheFloor := by
  intro s T hT h0 hle
  rw [← measuredDuration_eq] at hT
  subst hT
  exact ⟨_, execCalibrate_of_success h0 hle, Nat.div_pos hle h0, Nat.div_mul_le_self _ _,
    Nat.lt_mul_of_div_lt (Nat.lt_succ_self _) h0, rfl, rfl, rfl, rfl, rfl⟩

/-- Settles O16: the durations R85 names are those that end in `DEAD`. -/
theorem calibrationFailureExactly : Obligations.CalibrationFailureExactly := by
  intro s T hT
  rw [← measuredDuration_eq] at hT
  subst hT
  by_cases h : measuredDuration s = 0 ∨ 150000 * s.par.calReads < measuredDuration s
  · exact ⟨_, execCalibrate_of_failure h, iff_of_true rfl h, fun _ => rfl⟩
  · obtain ⟨h0, hle⟩ := (not_or.1 h).imp Nat.pos_of_ne_zero not_lt.1
    exact ⟨_, execCalibrate_of_success h0 hle, iff_of_false nofun h, nofun⟩

/-- Both outcomes of CALIBRATE leave `CAL`, with CONSTRUCT still in progress. -/
theorem Performs.of_calibrate {s t : State} (h : Performs .calibrate s t) :
    (t.phase = .idle ∨ t.phase = .dead) ∧ t.seq = s.seq ∧ t.env.resets = s.env.resets := by
  cases h with
  | calibrated => exact ⟨.inl rfl, rfl, rfl⟩
  | calibrationFailed => exact ⟨.inr rfl, rfl, rfl⟩
  | refused hi | answered _ hi | cycleStarted hi => cases hi
  | held hi => simp at hi

theorem Performs.cal {i : Instr} {s t : State} (h : Performs i s t) (hi : i ≠ .calibrate) : t.cal = s.cal := by
  cases h with
  | calibrated => exact absurd rfl hi
  | _ => rfl

/-- No outcome but CONSTRUCT's in `RESET` enters `CAL`. -/
theorem Performs.phase_of_cal {i : Instr} {s t : State} (h : Performs i s t) (ht : t.phase = .cal) :
    s.phase = .cal ∨ s.phase = .reset ∧ i.isConstruct = true := by
  cases h
  case constructed hp => exact .inr ⟨hp, rfl⟩
  case refused | answered | held | heldHigh | heldLow | sampledFirst | sampledSame | sampledEdge => exact .inl ht
  all_goals cases ht

/-- Settles O17, clause by clause. -/
theorem calibratesOncePerReset : Obligations.CalibratesOncePerReset := by
  intro i s t h
  have hp := exec_performs h
  refine ⟨hp.cal, ?_, hp.phase_of_cal, hp.phase_of_reset⟩
  rintro rfl
  obtain ⟨ht | ht, -⟩ := hp.of_calibrate <;> simp [ht]

/-! ### CONSTRUCT (R81) -/

theorem execConstruct_of_reset {p w : Nat} {c : Bool} {s : State} (hp : s.phase = .reset)
    (hn : s.seq.pending ≠ some (.construct p c w)) : execConstruct p c w s = .next (constructStart p c w s) := by
  obtain ⟨hr, -⟩ | ⟨hr, -⟩ | ⟨-, -, heq⟩ | ⟨-, hp', -⟩ := execConstruct_cases p c w s
  · exact absurd ((resuming_iff _ _).1 hr) hn
  · exact absurd ((resuming_iff _ _).1 hr) hn
  · exact heq
  · exact absurd hp hp'

/-- Settles O12: a window below `2 ^ 32` is kept by its field. -/
theorem constructConfiguresTheInstance : Obligations.ConstructConfiguresTheInstance := by
  intro p c w s hp hn hw
  exact ⟨_, execConstruct_of_reset hp hn, rfl, rfl, Nat.mod_eq_of_lt hw, rfl⟩

/-- The response of a CONSTRUCT whose CALIBRATE has ended with the diagnostic record `d`. -/
def Diag.constructResponse (d : Diag) : Response := if d.lastFault = 1 then .calfail else .done

theorem execConstruct_of_pending {p w : Nat} {c : Bool} {s : State} (h : s.seq.pending = some (.construct p c w)) :
    execConstruct p c w s = .next (s.finish s.diag.constructResponse) := by
  have hres := (resuming_iff _ _).2 h
  obtain ⟨-, hf, heq⟩ | ⟨-, hf, heq⟩ | ⟨hr, -⟩ | ⟨hr, -⟩ := execConstruct_cases p c w s
  · rw [heq, Diag.constructResponse, if_pos hf]
  · rw [heq, Diag.constructResponse, if_neg hf]
  · cases hr.symm.trans hres
  · cases hr.symm.trans hres

/-- Settles O14: what `State.finish` writes, with either response. -/
theorem constructReportsTheCalibration : Obligations.ConstructReportsTheCalibration :=
  fun _ _ _ _ => execConstruct_of_pending

/-! ### From the port to the response -/

theorem stepN_succ_of_step {k : Nat} {s t : State} (h : step s = .next t) : stepN (k + 1) s = stepN k t := by
  simp [stepN, h]

theorem resetNow_of_no_resets {s : State} (h : s.env.resets = []) : s.env.resetNow = false := by
  simp [Env.resetNow, h]

theorem decodeStage_of_rests {p : Phase} (h : p.Rests) : decodeStage p.code = .restingPhase p.code := by
  rcases h with rfl | rfl | rfl | rfl <;> rfl

/-- The CONSTRUCT that a command with operation code 0 asks for (R69, R70). -/
def HostCmd.toConstruct (c : HostCmd) : Instr := .construct c.pin c.cacheDisabled c.windowS.toNat

theorem decodeHostCmd_of_op_zero {c : HostCmd} (h : c.op = 0) : decodeHostCmd c = .instr (HostCmd.toConstruct c) := by
  simp [decodeHostCmd, h, HostCmd.toConstruct]

/-- The block once it has taken the CONSTRUCT `c` from the port and run it up to its call of CALIBRATE. -/
def State.constructing (s : State) (c : HostCmd) : State :=
  constructStart c.pin c.cacheDisabled c.windowS.toNat s.takeCmd

theorem step_calibrate {s : State} (hp : s.phase = .cal) (hr : s.env.resets = []) : step s = execCalibrate s := by
  rw [step_of_stage (i := .calibrate) (resetNow_of_no_resets hr) (by rw [hp]; rfl), ticked_of_no_resets hr]
  rfl

theorem step_constructReturn {s : State} {p w : Nat} {c : Bool} (hp : s.phase.Rests) (hr : s.env.resets = [])
    (hn : s.seq.pending = some (.construct p c w)) : step s = .next (s.finish s.diag.constructResponse) := by
  rw [step_of_pending (resetNow_of_no_resets hr) (decodeStage_of_rests hp) hn, ticked_of_no_resets hr]
  exact execConstruct_of_pending hn

section ConstructAtThePort
variable {s : State} {c : HostCmd} {rest : List HostCmd} (hp : s.phase = .reset) (hn : s.seq.pending = none)
  (hr : s.env.resets = []) (hc : s.port.cmds = c :: rest) (hop : c.op = 0)
include hp hn hr hc hop

theorem step_construct : step s = .next (s.constructing c) := by
  rw [step_of_command (resetNow_of_no_resets hr) (decodeStage_of_rests (.inl hp)) hn hc (decodeHostCmd_of_op_zero hop),
    ticked_of_no_resets hr]
  exact execConstruct_of_reset hp (by simp [State.takeCmd, hn])

/-- CONSTRUCT's three steps, whatever CALIBRATE ends in. -/
theorem stepN_construct {u : State} (hcal : execCalibrate (s.constructing c) = .next u) :
    stepN 3 s = .next (u.finish u.diag.constructResponse) := by
  obtain ⟨hphase, hseq, hres⟩ := (execCalibrate_performs hcal).of_calibrate
  have h2 : step (s.constructing c) = .next u := (step_calibrate (s := s.constructing c) rfl hr).trans hcal
  have h3 : step u = .next (u.finish u.diag.constructResponse) :=
    step_constructReturn (hphase.elim (fun h => .inr (.inr (.inl h))) fun h => .inr (.inl h)) (hres.trans hr)
      (congrArg Seq.pending hseq)
  rw [stepN_succ_of_step (step_construct hp hn hr hc hop), stepN_succ_of_step h2, stepN_succ_of_step h3]
  rfl

end ConstructAtThePort

theorem constructing_cfg (s : State) (c : HostCmd) :
    (s.constructing c).cfg = { pin := c.pin, cacheDisabled := c.cacheDisabled, windowS := c.windowS } := by
  simp [State.constructing, constructStart]

theorem constructing_cmds {s : State} {c : HostCmd} {rest : List HostCmd} (h : s.port.cmds = c :: rest) :
    (s.constructing c).port.cmds = rest :=
  congrArg List.tail h

/-- What CALIBRATE measures inside CONSTRUCT is what the clock of the state before CONSTRUCT has to give. -/
theorem measuredDuration_constructing (s : State) (c : HostCmd) :
    measuredDuration (s.constructing c) = (s.afterClock.discardReads s.par.calReads).env.nextAdvance :=
  measuredDuration_eq _

/-- Settles O13: the two outcomes of CALIBRATE in the middle one of the three steps. -/
theorem constructRunsToItsResponse : Obligations.ConstructRunsToItsResponse := by
  intro s c rest hp hn hr hc hop
  have run {u : State} := stepN_construct (u := u) hp hn hr hc hop
  have cfg := constructing_cfg s c
  have cmds := constructing_cmds hc
  rw [← measuredDuration_constructing s c]
  by_cases h : measuredDuration (s.constructing c) = 0 ∨ 150000 * s.par.calReads < measuredDuration (s.constructing c)
  · exact ⟨_, run (execCalibrate_of_failure h), cfg, rfl, rfl, rfl, cmds, .inr ⟨h, rfl, rfl, rfl, rfl⟩⟩
  · obtain ⟨h0, hle⟩ := (not_or.1 h).imp Nat.pos_of_ne_zero not_lt.1
    exact ⟨_, run (execCalibrate_of_success h0 hle), cfg, rfl, rfl, rfl, cmds, .inl ⟨h0, hle, rfl, rfl, rfl, rfl⟩⟩

end Sys2Proof.Machine
end

section
/-! PROOFS, 41_capture.md, part 1. HANDSHAKE: the state each step leaves where its `Delay` returns, and the three steps
in a row. -/

namespace Sys2Proof.Machine

/-- Without a hardware reset to come, a phase that selects a stage performs it in the state as it stands. -/
theorem step_of_phase {s : State} {p : Phase} {i : Instr} (hp : s.phase = p) (hi : decodeStage p.code = .instr i)
    (hr : s.env.resets = []) : step s = exec i s := by
  rw [step_of_stage (resetNow_of_no_resets hr) (hp ▸ hi), ticked_of_no_resets hr]

/-! ### One step (R92 to R94) -/

/-- The block after step 1, whose hold has ended (R92). -/
def State.drivenHigh (s : State) : State :=
  { s with
    phase := .hsLow
    pin := { s.pin with dir := some .output, pull := some .none, out := some .high }
    env := { s.env with
      delays := s.env.delays.tail
      calls := s.env.calls ++ [.setMode s.cfg.pin .output .none, .write s.cfg.pin .high, .delay s.par.tIdleMs] } }

/-- The block after step 2, whose hold has ended (R93). -/
def State.drivenLow (s : State) : State :=
  { s with
    phase := .hsRel
    pin := { s.pin with out := some .low }
    env := { s.env with
      delays := s.env.delays.tail
      calls := s.env.calls ++ [.write s.cfg.pin .low, .delay s.par.tStartMs] } }

/-- The block after step 3 (R94). -/
def State.released (s : State) : State :=
  { s with
    phase := .poll
    pin := { s.pin with dir := some .input, pull := some .up }
    seq := { s.seq with polling := false }
    env := { s.env with calls := s.env.calls ++ [.setMode s.cfg.pin .input .up] } }

theorem execHandshake1_of_returns {s : State} (hd : s.env.nextDelayReturns = true) (hq : s.seq.holding = false) :
    execHandshake1 s = .next s.drivenHigh := by
  obtain ⟨hq', -⟩ | ⟨-, -, heq⟩ | ⟨-, hd', -⟩ := execHandshake1_cases s
  · cases hq.symm.trans hq'
  · rw [heq]
    simp [State.drivenHigh, State.setPhase, State.requestDelay, State.pinWrite, State.pinMode, hd, ← hq]
  · cases hd'.symm.trans hd

theorem execHandshake2_of_returns {s : State} (hd : s.env.nextDelayReturns = true) (hq : s.seq.holding = false) :
    execHandshake2 s = .next s.drivenLow := by
  obtain ⟨hq', -⟩ | ⟨-, -, heq⟩ | ⟨-, hd', -⟩ := execHandshake2_cases s
  · cases hq.symm.trans hq'
  · rw [heq]
    simp [State.drivenLow, State.setPhase, State.requestDelay, State.pinWrite, hd, ← hq]
  · cases hd'.symm.trans hd

/-- Settles O18: the three states after the steps, written out. -/
theorem handshakeStepsDriveThePin : Obligations.HandshakeStepsDriveThePin := fun _ hd hq =>
  ⟨execHandshake1_of_returns hd hq, execHandshake2_of_returns hd hq, rfl⟩

/-! ### The three steps in a row (R91) -/

/-- Where the next `n + 1` calls of `Delay` return, so does the next one, and after it the next `n`. -/
theorem Env.nextDelayReturns_of_take {e : Env} {n : Nat} (h : ∀ b ∈ e.delays.take (n + 1), b = true) :
    e.nextDelayReturns = true ∧ ∀ b ∈ e.delays.tail.take n, b = true := by
  unfold Env.nextDelayReturns
  cases hd : e.delays with
  | nil => simp
  | cons b rest => simpa [hd] using h

theorem stepN_handshake {s : State} (hp : s.phase = .hsHigh) (hq : s.seq.holding = false)
    (hd : ∀ b ∈ s.env.delays.take 2, b = true) (hr : s.env.resets = []) :
    stepN 3 s = .next s.drivenHigh.drivenLow.released := by
  obtain ⟨hd1, hrest⟩ := Env.nextDelayReturns_of_take hd
  obtain ⟨hd2, -⟩ := Env.nextDelayReturns_of_take (e := s.drivenHigh.env) hrest
  have h1 : step s = .next s.drivenHigh := (step_of_phase hp rfl hr).trans (execHandshake1_of_returns hd1 hq)
  have h2 : step s.drivenHigh = .next s.drivenHigh.drivenLow :=
    (step_of_phase (s := s.drivenHigh) rfl rfl hr).trans (execHandshake2_of_returns hd2 hq)
  have h3 : step s.drivenHigh.drivenLow = .next s.drivenHigh.drivenLow.released :=
    step_of_phase (s := s.drivenHigh.drivenLow) rfl rfl hr
  rw [stepN_succ_of_step h1, stepN_succ_of_step h2, stepN_succ_of_step h3]
  rfl

/-- Settles O19: the calls of the three steps, one after the other. -/
theorem handshakeCallsInOrder : Obligations.HandshakeCallsInOrder := by
  intro s hp hq hd hr
  refine ⟨_, stepN_handshake hp hq hd hr, ?_, rfl, rfl⟩
  simp [State.drivenHigh, State.drivenLow, State.released, ← List.drop_one]

end Sys2Proof.Machine
end

section
/-! PROOFS, 41_capture.md, part 2. One execution of POLL, and the sample streams as lists: every stream is that of some
runs, and its runs are as long as its stretches of equal samples. -/

namespace Sys2Proof.Machine

/-! ### One execution of POLL (R95 to R97) -/

theorem execPoll_of_first {s : State} (hq : s.seq.polling = false) : execPoll s = .next (pollFirst s) := by
  simp [execPoll, hq]

section Loop
variable {s : State} (hq : s.seq.polling = true)
include hq

theorem execPoll_of_same (hl : s.env.nextLevel = s.wk.cur) (hb : s.wk.cnt + 1 ≠ s.cal.maxIterations) :
    execPoll s = .next (pollSame s) := by
  simp [execPoll, hq, hl, hb]

theorem execPoll_of_bound (hl : s.env.nextLevel = s.wk.cur) (hb : s.wk.cnt + 1 = s.cal.maxIterations) :
    execPoll s = .next (pollExit (pollSame s)) := by
  simp [execPoll, hq, hl, hb]

theorem execPoll_of_edge (hl : s.env.nextLevel ≠ s.wk.cur) : execPoll s = .next (pollEdge s s.env.nextLevel) := by
  simp [execPoll, hq, hl]

end Loop

/-- Settles O21: what `pollFirst` writes. -/
theorem pollFirstSampleInitialises : Obligations.PollFirstSampleInitialises := fun _ => execPoll_of_first

/-- Settles O22, one case of POLL's loop per clause. -/
theorem pollStepCountsOrAppends : Obligations.PollStepCountsOrAppends := by
  intro s hq
  refine ⟨execPoll_of_same hq, fun hl hb => ?_, execPoll_of_edge hq⟩
  rw [← hb]
  exact execPoll_of_bound hq hl hb

/-! ### Sample streams -/

theorem samplesOf_append (l : Level) (xs ys : List Nat) :
    samplesOf l (xs ++ ys) = samplesOf l xs ++ samplesOf (levelAfter l xs) ys := by
  induction xs generalizing l with
  | nil => rfl
  | cons x xs ih => simp [samplesOf, levelAfter, ih]

theorem length_samplesOf (l : Level) (runs : List Nat) : (samplesOf l runs).length = runs.length + runs.sum := by
  induction runs generalizing l with
  | nil => rfl
  | cons r rs ih =>
    simp only [samplesOf, List.length_append, List.length_replicate, ih, List.length_cons, List.sum_cons]
    omega

theorem length_samplesOf_le {b : Nat} {runs : List Nat} (l : Level) (h : ∀ r ∈ runs, r < b) :
    (samplesOf l runs).length ≤ runs.length * b := by
  induction runs generalizing l with
  | nil => simp [samplesOf]
  | cons r rs ih =>
    have hr : r < b := h r (by simp)
    have hrs := ih l.other fun x hx => h x (by simp [hx])
    simp only [samplesOf, List.length_append, List.length_replicate, List.length_cons, Nat.succ_mul]
    omega

/-- One more sample of the trailing run. -/
theorem samplesOf_concat_succ (l : Level) (runs : List Nat) (c : Nat) :
    samplesOf l (runs ++ [c + 1]) = samplesOf l (runs ++ [c]) ++ [levelAfter l runs] := by
  simp [samplesOf_append, samplesOf, List.replicate_succ' (n := c + 1)]

theorem Level.eq_other_of_ne {l m : Level} (h : m ≠ l) : m = l.other := by
  cases l <;> cases m <;> trivial

/-- Every stream is that of some runs, the first one of the first sample. -/
theorem exists_samplesOf_cons (l : Level) (ls : List Level) : ∃ r rs, l :: ls = samplesOf l (r :: rs) := by
  induction ls generalizing l with
  | nil => exact ⟨0, [], rfl⟩
  | cons m ls ih =>
    obtain ⟨r, rs, h⟩ := ih m
    rw [h]
    by_cases hm : m = l
    · subst hm
      exact ⟨r + 1, rs, rfl⟩
    · obtain rfl := Level.eq_other_of_ne hm
      exact ⟨0, r :: rs, rfl⟩

theorem exists_samplesOf_concat {ls : List Level} (h : ls ≠ []) : ∃ l runs c, ls = samplesOf l (runs ++ [c]) := by
  obtain ⟨l, ls, rfl⟩ := List.exists_cons_of_ne_nil h
  obtain ⟨r, rs, hrs⟩ := exists_samplesOf_cons l ls
  exact ⟨l, (r :: rs).dropLast, _, by rw [hrs, List.dropLast_append_getLast (List.cons_ne_nil r rs)]⟩

/-- The samples of one run, in their place in the stream. -/
theorem getElem?_samplesOf_run {r j : Nat} (l : Level) (xs ys : List Nat) (hj : j ≤ r) :
    (samplesOf l (xs ++ r :: ys))[(samplesOf l xs).length + j]? = some (levelAfter l xs) := by
  rw [samplesOf_append, List.getElem?_append_right (by omega), Nat.add_sub_cancel_left, samplesOf,
    List.getElem?_append_left (by simpa using Nat.lt_succ_of_le hj), List.getElem?_replicate,
    if_pos (Nat.lt_succ_of_le hj)]

/-- Where no `b + 1` consecutive samples are equal, every run has at most `b` samples. -/
theorem run_lt_of_unsettled {b r : Nat} {l : Level} {runs : List Nat}
    (h : ∀ i, i + b < (samplesOf l runs).length →
      ∃ j, j ≤ b ∧ (samplesOf l runs)[i + j]? ≠ (samplesOf l runs)[i]?)
    (hr : r ∈ runs) : r < b := by
  obtain ⟨xs, ys, rfl⟩ := List.append_of_mem hr
  by_contra hb
  have run {j : Nat} (hj : j ≤ r) := getElem?_samplesOf_run l xs ys hj
  have hlen : (samplesOf l xs).length + b < (samplesOf l (xs ++ r :: ys)).length :=
    (List.getElem?_eq_some_iff.1 (run (not_lt.1 hb))).1
  obtain ⟨j, hj, hne⟩ := h _ hlen
  exact hne ((run (hj.trans (not_lt.1 hb))).trans (run (Nat.zero_le r)).symm)

end Sys2Proof.Machine
end

section
/-! PROOFS, 41_capture.md, part 3. POLL over a stream of samples: as long as no run fills the counter, the block stands in
POLL's loop with the runs seen so far (`stepN_samples`); the sample that fills it ends the loop (`stepN_capture`). -/

namespace Sys2Proof.Machine

/-- The block inside POLL's loop, with this buffer, current level and counter, `k` samples after `s`. -/
def State.polled (s : State) (raw : Memory) (cur : Level) (cnt k : Nat) : State :=
  { s with
    wk := { s.wk with cur := cur, cnt := cnt }
    raw := raw
    seq := { s.seq with polling := true }
    env := { s.env with levels := s.env.levels.drop k, pinReads := s.env.pinReads + k } }

theorem State.polled_polled (s : State) (raw raw' : Memory) (cur cur' : Level) (cnt cnt' k k' : Nat) :
    (s.polled raw cur cnt k).polled raw' cur' cnt' k' = s.polled raw' cur' cnt' (k + k') := by
  simp [State.polled, List.drop_drop, Nat.add_assoc]

/-- What the buffer holds when a sample opens a run: the first sample of POLL empties it (R95), an edge appends the counter
(R96). -/
def State.rawAtOpening (s : State) : Memory := if s.seq.polling = true then s.raw.append s.wk.cnt else []

theorem State.rawAtOpening_of_first {s : State} (hq : s.seq.polling = false) : s.rawAtOpening = [] := by
  simp [State.rawAtOpening, hq]

theorem Env.nextLevel_of_cons {e : Env} {l : Level} {rest : List Level} (h : e.levels = l :: rest) :
    e.nextLevel = l := by
  simp [Env.nextLevel, h]

theorem stepN_add {j k : Nat} {s t : State} (h : stepN j s = .next t) : stepN (j + k) s = stepN k t := by
  induction j generalizing s with
  | zero =>
    cases h
    rw [Nat.zero_add]
  | succ j ih =>
    cases hs : step s with
    | next u =>
      rw [Nat.add_right_comm, stepN_succ_of_step hs]
      exact ih ((stepN_succ_of_step hs).symm.trans h)
    | fault r => simp [stepN, hs] at h
    | refused r => simp [stepN, hs] at h

theorem stepN_one (s : State) : stepN 1 s = step s := by
  rw [stepN]
  cases step s <;> rfl

section Sampling
variable {s : State} (hp : s.phase = .poll) (hr : s.env.resets = [])
include hp hr

theorem step_poll : step s = execPoll s := step_of_phase hp rfl hr

/-- The first sample of a run: the first one of POLL, or an edge. -/
theorem step_opening {l : Level} {rest : List Level} (hl : s.env.levels = l :: rest)
    (hcur : s.seq.polling = true → l ≠ s.wk.cur) : step s = .next (s.polled s.rawAtOpening l 0 1) := by
  have hnext := Env.nextLevel_of_cons hl
  rw [step_poll hp hr]
  cases hq : s.seq.polling with
  | false =>
    rw [execPoll_of_first hq]
    simp [pollFirst, State.polled, State.rawAtOpening_of_first hq, State.afterPinRead, State.setRaw, State.setWk,
      State.setSeq, hnext]
  | true =>
    rw [execPoll_of_edge hq (hnext ▸ hcur hq), hnext]
    simp [pollEdge, State.polled, State.rawAtOpening, State.afterPinRead, State.setRaw, State.setWk, ← hq]

/-- Equal samples that do not fill the counter only raise it. -/
theorem stepN_same {m : Nat} {rest : List Level} (hq : s.seq.polling = true)
    (hl : s.env.levels = List.replicate m s.wk.cur ++ rest) (hb : s.wk.cnt + m < s.cal.maxIterations) :
    stepN m s = .next (s.polled s.raw s.wk.cur (s.wk.cnt + m) m) := by
  induction m generalizing s with
  | zero => simp [stepN, State.polled, ← hq]
  | succ m ih =>
    have hnext := Env.nextLevel_of_cons hl
    have h1 : step s = .next (s.polled s.raw s.wk.cur (s.wk.cnt + 1) 1) := by
      rw [step_poll hp hr, execPoll_of_same hq hnext (by omega)]
      simp [pollSame, State.polled, State.afterPinRead, State.setWk, ← hq]
    have hl1 : s.env.levels.drop 1 = List.replicate m s.wk.cur ++ rest := by simp [hl, List.replicate_succ]
    rw [stepN_succ_of_step h1]
    refine (ih (s := s.polled s.raw s.wk.cur (s.wk.cnt + 1) 1) hp hr rfl hl1 ?_).trans ?_
    · simp only [State.polled]
      omega
    · rw [State.polled_polled, Nat.add_comm 1 m]
      simp only [State.polled, Nat.add_assoc, Nat.add_comm 1 m]

/-- A whole run that does not fill the counter. -/
theorem stepN_run {l : Level} {r : Nat} {rest : List Level} (hl : s.env.levels = List.replicate (r + 1) l ++ rest)
    (hcur : s.seq.polling = true → l ≠ s.wk.cur) (hb : r < s.cal.maxIterations) :
    stepN (r + 1) s = .next (s.polled s.rawAtOpening l r (r + 1)) := by
  rw [stepN_succ_of_step (step_opening hp hr hl hcur)]
  have hl1 : s.env.levels.drop 1 = List.replicate r l ++ rest := by simp [hl, List.replicate_succ]
  refine (stepN_same (s := s.polled s.rawAtOpening l 0 1) hp hr rfl hl1 ?_).trans ?_
  · simpa [State.polled] using hb
  · rw [State.polled_polled, Nat.add_comm 1 r]
    simp [State.polled]

/-- A stream none of whose runs fills the counter: all runs but the last are stored, the last is still being counted. -/
theorem stepN_samples {l : Level} {runs : List Nat} {c : Nat} {rest : List Level}
    (hl : s.env.levels = samplesOf l (runs ++ [c]) ++ rest) (hcur : s.seq.polling = true → l ≠ s.wk.cur)
    (hb : ∀ r ∈ runs ++ [c], r < s.cal.maxIterations) :
    stepN (samplesOf l (runs ++ [c])).length s =
      .next (s.polled (s.rawAtOpening ++ runs) (levelAfter l runs) c (samplesOf l (runs ++ [c])).length) := by
  induction runs generalizing s l with
  | nil =>
    have hl' : s.env.levels = List.replicate (c + 1) l ++ rest := by simpa [samplesOf] using hl
    simpa [samplesOf, levelAfter] using stepN_run hp hr hl' hcur (hb c (by simp))
  | cons r runs ih =>
    have hl' : s.env.levels = List.replicate (r + 1) l ++ (samplesOf l.other (runs ++ [c]) ++ rest) := by
      simpa [samplesOf] using hl
    have hrest : s.env.levels.drop (r + 1) = samplesOf l.other (runs ++ [c]) ++ rest := by
      rw [hl', List.drop_left' (List.length_replicate ..)]
    have hne : l.other ≠ l := by cases l <;> nofun
    have hlen : (samplesOf l (r :: runs ++ [c])).length = (r + 1) + (samplesOf l.other (runs ++ [c])).length := by
      simp [samplesOf]
    rw [hlen, stepN_add (stepN_run hp hr hl' hcur (hb r (by simp)))]
    have hb' : ∀ x ∈ runs ++ [c], x < s.cal.maxIterations := fun x hx => hb x (List.mem_cons_of_mem r hx)
    refine (ih (s := s.polled s.rawAtOpening l r (r + 1)) hp hr hrest (fun _ => hne) hb').trans ?_
    rw [State.polled_polled]
    simp [State.polled, State.rawAtOpening, Memory.append, levelAfter]

end Sampling

/-! ### A line that settles (R98 to R100) -/

/-- The hypotheses of a capture: POLL at its beginning, and a line whose runs before the trailing one have at most
`max_iterations` samples. -/
structure State.Captures (s : State) (l : Level) (runs : List Nat) (rest : List Level) : Prop where
  phase : s.phase = .poll
  first : s.seq.polling = false
  resets : s.env.resets = []
  bound : 1 ≤ s.cal.maxIterations
  runs_lt : ∀ r ∈ runs, r < s.cal.maxIterations
  levels : s.env.levels = samplesOf l (runs ++ [s.cal.maxIterations]) ++ rest

/-- The block at the end of a capture of `runs`. -/
def State.captured (s : State) (l : Level) (runs : List Nat) (rest : List Level) : State :=
  { s with
    phase := .classify
    wk := { s.wk with cur := levelAfter l runs, cnt := s.cal.maxIterations }
    diag := { s.diag with lastLen := runs.length, cto := decide (runs.length = 0) }
    raw := runs
    env := { s.env with levels := rest, pinReads := s.env.pinReads + captureReads s.cal.maxIterations runs } }

/-- POLL over a line that settles: the runs by `stepN_samples`, and the sample that fills the counter. -/
theorem stepN_capture {s : State} {l : Level} {runs : List Nat} {rest : List Level} (h : s.Captures l runs rest) :
    stepN (captureReads s.cal.maxIterations runs) s = .next (s.captured l runs rest) := by
  obtain ⟨hp, hq, hr, hpos, hb, hl⟩ := h
  obtain ⟨m, hm⟩ := Nat.exists_eq_add_of_le' hpos
  rw [hm] at hb
  rw [hm, samplesOf_concat_succ, List.append_assoc] at hl
  have hlen : captureReads (m + 1) runs = (samplesOf l (runs ++ [m])).length + 1 := by
    simp only [captureReads, length_samplesOf, List.length_append, List.length_singleton, List.sum_append,
      List.sum_singleton]
    omega
  have hloop := stepN_samples hp hr hl (by simp [hq]) fun r hx => by
    obtain hx | hx := List.mem_append.1 hx
    · exact hm ▸ hb r hx
    · rw [hm, List.mem_singleton.1 hx]
      exact m.lt_succ_self
  have hdrop : s.env.levels.drop (samplesOf l (runs ++ [m])).length = levelAfter l runs :: rest := by
    rw [hl, List.drop_left]
    rfl
  have hseq : { s.seq with polling := false } = s.seq := by rw [← hq]
  rw [hm, hlen, stepN_add hloop, stepN_one, step_poll (s := s.polled ..) hp hr,
    execPoll_of_bound rfl (Env.nextLevel_of_cons hdrop) hm.symm]
  simp [pollExit, pollSame, State.polled, State.captured, State.afterPinRead, State.setWk, State.rawAtOpening_of_first hq,
    hseq, hm, hlen, hdrop, Nat.add_assoc]

/-- Settles O23: the state at the end of the capture, read field by field. -/
theorem captureRecordsTheRuns : Obligations.CaptureRecordsTheRuns := by
  intro s l runs rest hp hq hr hm hb hl
  exact ⟨_, stepN_capture ⟨hp, hq, hr, hm, hb, hl⟩, rfl, rfl, rfl, rfl, rfl, rfl⟩

theorem execClassify_of_short {s : State} (h : s.raw.length < 80) :
    execClassify s =
      .next ((s.setWk { s.wk with n := s.raw.length }).raise (.insufficientSamples s.raw.length)) := by
  obtain ⟨-, heq⟩ | ⟨hle, -⟩ := execClassify_cases s
  · exact heq
  · exact absurd h hle.not_gt

/-- Settles O24: the capture, and one step of CLASSIFY on fewer than 80 entries. -/
theorem shortCaptureIsInsufficient : Obligations.ShortCaptureIsInsufficient := by
  intro s l runs rest hp hq hr hm hb hshort hl
  have hcap := stepN_capture ⟨hp, hq, hr, hm, hb, hl⟩
  have hclassify := (step_of_phase (s := s.captured l runs rest) rfl rfl hr).trans
    (execClassify_of_short (s := s.captured l runs rest) hshort)
  refine ⟨⟨_, hcap, rfl, rfl, rfl, ?_⟩, _, (stepN_add hcap).trans ((stepN_one _).trans hclassify), rfl, rfl, rfl, rfl,
    rfl, rfl, rfl, rfl, rfl, rfl⟩
  rintro rfl
  simp [State.captured, captureReads]

/-! ### A line that never settles (R101) -/

/-- Settles O25: the samples read so far are those of some runs, none of which fills the counter, so `stepN_samples` says
where the block stands and the stored runs bound the reads. -/
theorem unsettledLineNeverEndsPoll : Obligations.UnsettledLineNeverEndsPoll := by
  intro s k hp hq hr _ hk hunsettled
  rcases Nat.eq_zero_or_pos k with rfl | hpos
  · exact ⟨s, rfl, hp, rfl, rfl, rfl, Nat.zero_le _⟩
  have hlen : (s.env.levels.take k).length = k := List.length_take_of_le hk
  obtain ⟨l, runs, c, hruns⟩ := exists_samplesOf_concat (List.ne_nil_of_length_pos (hlen.symm ▸ hpos))
  rw [hruns] at hlen
  have hb : ∀ r ∈ runs ++ [c], r < s.cal.maxIterations := by
    refine fun _ => run_lt_of_unsettled (l := l) fun i hi => ?_
    rw [hlen] at hi
    obtain ⟨j, hj, hne⟩ := hunsettled i hi
    refine ⟨j, hj, ?_⟩
    rwa [← hruns, List.getElem?_take_of_lt (by omega), List.getElem?_take_of_lt (by omega)]
  have hl : s.env.levels = samplesOf l (runs ++ [c]) ++ s.env.levels.drop k := by
    rw [← hruns, List.take_append_drop]
  have hrun := stepN_samples hp hr hl (by simp [hq]) hb
  rw [hlen] at hrun
  refine ⟨_, hrun, hp, rfl, rfl, rfl, ?_⟩
  have hle := length_samplesOf_le l hb
  rw [hlen] at hle
  simpa [State.polled, State.rawAtOpening_of_first hq] using hle

end Sys2Proof.Machine
end

section
/-! PROOFS, 42_classify.md, part 1. The statistic of a subsequence as a sum over its places, the affine maps it
commutes with, and when it is zero (R67, R110). -/

namespace Sys2Proof.Machine

theorem sum_map_toList {n : Nat} (f : Nat → Nat) (x : Vector Nat n) :
    (x.toList.map f).sum = ∑ j : Fin n, f x[j.val] := by
  obtain ⟨⟨l⟩, rfl⟩ := x
  exact (Fin.sum_univ_fun_getElem l f).symm

theorem sumOf_eq_sum (x : Vector Nat 40) : sumOf x = ∑ j : Fin 40, x[j.val] := by
  simpa [sumOf] using sum_map_toList id x

theorem sumSqOf_eq_sum (x : Vector Nat 40) : sumSqOf x = ∑ j : Fin 40, x[j.val] ^ 2 := by
  simp only [sumSqOf, sum_map_toList fun v => v * v, sq]

/-- The subtraction in `V = 40 Q − S²` is exact, by Chebyshev's inequality (R110). -/
theorem dispersion_add_sq (x : Vector Nat 40) : dispersion x + sumOf x ^ 2 = 40 * sumSqOf x := by
  have hle : sumOf x ^ 2 ≤ 40 * sumSqOf x := by
    rw [sumOf_eq_sum, sumSqOf_eq_sum]
    exact sq_sum_le_card_mul_sum_sq
  rw [dispersion, ← sq, Nat.sub_add_cancel hle]

/-! ### Affine maps -/

section Affine
variable {x y : Vector Nat 40} {a c : Nat} (h : ∀ (j : Nat) (hj : j < 40), y[j] = a * x[j] + c)
include h

theorem sumOf_affine : sumOf y = a * sumOf x + 40 * c := by
  simp [sumOf_eq_sum, h, Finset.sum_add_distrib, Finset.mul_sum]

theorem sumSqOf_affine : sumSqOf y = a ^ 2 * sumSqOf x + 2 * a * c * sumOf x + 40 * c ^ 2 := by
  have hsq (j : Fin 40) : y[j.val] ^ 2 = a ^ 2 * x[j.val] ^ 2 + 2 * a * c * x[j.val] + c ^ 2 := by
    rw [h]
    ring
  simp [sumSqOf_eq_sum, sumOf_eq_sum, hsq, Finset.sum_add_distrib, Finset.mul_sum]

/-- The dispersion does not see an offset and takes the square of a scale. -/
theorem dispersion_affine : dispersion y = a ^ 2 * dispersion x := by
  have hy := dispersion_add_sq y
  rw [sumOf_affine h, sumSqOf_affine h] at hy
  linear_combination hy - a ^ 2 * dispersion_add_sq x

end Affine

section Constant
variable {x : Vector Nat 40} {m : Nat} (h : ∀ (j : Nat) (hj : j < 40), x[j] = m)
include h

theorem sumOf_constant : sumOf x = 40 * m := by
  simp [sumOf_eq_sum, h]

theorem dispersion_constant : dispersion x = 0 := by
  simpa using dispersion_affine (x := x) (y := x) (a := 0) (c := m) (by simpa using h)

end Constant

/-! ### When the dispersion is positive -/

/-- `V` measures the deviations of the entries from their mean. -/
theorem sum_sq_deviation (x : Vector Nat 40) :
    ∑ j : Fin 40, (40 * (x[j.val] : ℤ) - sumOf x) ^ 2 = 40 * (dispersion x : ℤ) := by
  have hS : (sumOf x : ℤ) = ∑ j : Fin 40, (x[j.val] : ℤ) := mod_cast sumOf_eq_sum x
  have hQ : (sumSqOf x : ℤ) = ∑ j : Fin 40, (x[j.val] : ℤ) ^ 2 := mod_cast sumSqOf_eq_sum x
  have hV : (dispersion x : ℤ) + sumOf x ^ 2 = 40 * sumSqOf x := mod_cast dispersion_add_sq x
  calc ∑ j : Fin 40, (40 * (x[j.val] : ℤ) - sumOf x) ^ 2
      = ∑ j : Fin 40, (1600 * (x[j.val] : ℤ) ^ 2 - 80 * sumOf x * x[j.val] + sumOf x ^ 2) :=
        Finset.sum_congr rfl fun _ _ => by ring
    _ = 1600 * (sumSqOf x : ℤ) - 80 * sumOf x * sumOf x + 40 * sumOf x ^ 2 := by
        rw [Finset.sum_add_distrib, Finset.sum_sub_distrib, ← Finset.mul_sum, ← Finset.mul_sum, ← hS, ← hQ]
        simp
    _ = 40 * (dispersion x : ℤ) := by linear_combination -40 * hV

/-- Two different entries make the dispersion positive: at zero every entry would be the mean. -/
theorem dispersion_pos_of_ne {x : Vector Nat 40} {i j : Nat} (hi : i < 40) (hj : j < 40) (hne : x[i] ≠ x[j]) :
    0 < dispersion x := by
  refine Nat.pos_of_ne_zero fun h0 => hne ?_
  have hsum := sum_sq_deviation x
  rw [h0, Nat.cast_zero, mul_zero, Finset.sum_eq_zero_iff_of_nonneg fun _ _ => sq_nonneg _] at hsum
  have hmean (k : Nat) (hk : k < 40) : 40 * (x[k] : ℤ) - sumOf x = 0 :=
    pow_eq_zero_iff two_ne_zero |>.1 (hsum ⟨k, hk⟩ (Finset.mem_univ _))
  have := hmean i hi
  have := hmean j hj
  omega

end Sys2Proof.Machine
end

section
/-! PROOFS, 42_classify.md, part 2. The bits of a tail: what offset, scale, an exchange of the roles and a two-level
tail do to the selection and to the comparisons with the threshold (R111 to R116). -/

namespace Sys2Proof.Machine

theorem sumOf_subA (t : Vector Nat 80) : sumOf (subA t) = ∑ j : Fin 40, t[2 * j.val] := by
  simp [sumOf_eq_sum, subA_get]

theorem sumOf_subB (t : Vector Nat 80) : sumOf (subB t) = ∑ j : Fin 40, t[2 * j.val + 1] := by
  simp [sumOf_eq_sum, subB_get]

theorem sumSqOf_subA (t : Vector Nat 80) : sumSqOf (subA t) = ∑ j : Fin 40, t[2 * j.val] ^ 2 := by
  simp [sumSqOf_eq_sum, subA_get]

theorem sumSqOf_subB (t : Vector Nat 80) : sumSqOf (subB t) = ∑ j : Fin 40, t[2 * j.val + 1] ^ 2 := by
  simp [sumSqOf_eq_sum, subB_get]

theorem bitOf_iff (thr x : Nat) : bitOf thr x = true ↔ 40 * x > thr := decide_eq_true_iff

theorem classifyThr_selA {t : Vector Nat 80} (h : selectSub (dispersion (subA t)) (dispersion (subB t)) = .a) :
    classifyThr t = sumOf (subB t) := by
  simp only [classifyThr, h]

theorem classifyThr_selB {t : Vector Nat 80} (h : selectSub (dispersion (subA t)) (dispersion (subB t)) = .b) :
    classifyThr t = sumOf (subA t) := by
  simp only [classifyThr, h]

theorem classifyBits_selA_iff {t : Vector Nat 80} (h : selectSub (dispersion (subA t)) (dispersion (subB t)) = .a)
    (j : Nat) (hj : j < 40) : (classifyBits t)[j] = true ↔ 40 * t[2 * j] > classifyThr t := by
  rw [classifyBits_selA h, classifyThr_selA h, bitOf_iff]

theorem classifyBits_selB_iff {t : Vector Nat 80} (h : selectSub (dispersion (subA t)) (dispersion (subB t)) = .b)
    (j : Nat) (hj : j < 40) : (classifyBits t)[j] = true ↔ 40 * t[2 * j + 1] > classifyThr t := by
  rw [classifyBits_selB h, classifyThr_selB h, bitOf_iff]

/-! ### Offset and scale (R115 c) -/

theorem selectSub_mul {k : Nat} (hk : 0 < k) (va vb : Nat) : selectSub (k * va) (k * vb) = selectSub va vb := by
  simp [selectSub, hk]

theorem bitOf_affine {a : Nat} (ha : 0 < a) (c thr x : Nat) :
    bitOf (a * thr + 40 * c) (a * x + c) = bitOf thr x := by
  have hexp : 40 * (a * x + c) = a * (40 * x) + 40 * c := by ring
  simp [bitOf, hexp, ha]

theorem classifyBits_affine {t u : Vector Nat 80} {a c : Nat} (ha : 0 < a)
    (h : ∀ (k : Nat) (hk : k < 80), u[k] = a * t[k] + c) : classifyBits u = classifyBits t := by
  have hA (j : Nat) (hj : j < 40) : (subA u)[j] = a * (subA t)[j] + c := by simp only [subA_get, h]
  have hB (j : Nat) (hj : j < 40) : (subB u)[j] = a * (subB t)[j] + c := by simp only [subB_get, h]
  have hsel : selectSub (dispersion (subA u)) (dispersion (subB u)) =
      selectSub (dispersion (subA t)) (dispersion (subB t)) := by
    rw [dispersion_affine hA, dispersion_affine hB, selectSub_mul (pow_pos ha 2)]
  refine Vector.ext fun j hj => ?_
  cases ht : selectSub (dispersion (subA t)) (dispersion (subB t)) with
  | a => rw [classifyBits_selA (hsel.trans ht), classifyBits_selA ht, h, sumOf_affine hB, bitOf_affine ha]
  | b => rw [classifyBits_selB (hsel.trans ht), classifyBits_selB ht, h, sumOf_affine hA, bitOf_affine ha]

/-- Settles O30: an offset and a scale are affine maps of the tail. -/
theorem offsetAndScaleLeaveTheBits : Obligations.OffsetAndScaleLeaveTheBits := fun _ _ c =>
  ⟨fun h => classifyBits_affine (c := c) one_pos (by simpa using h), fun hc h => classifyBits_affine (c := 0) hc h⟩

/-! ### The roles exchanged (R115 b) -/

/-- Settles O29: the exchange turns the selection round, so each bit compares the same entry with the same sum. -/
theorem swappedRolesGiveTheSameBits : Obligations.SwappedRolesGiveTheSameBits := by
  intro t u hswap hne
  have hA : subA u = subB t := Vector.ext fun j hj => by rw [subA_get, subB_get, (hswap j hj).1]
  have hB : subB u = subA t := Vector.ext fun j hj => by rw [subA_get, subB_get, (hswap j hj).2]
  refine Vector.ext fun j hj => ?_
  obtain hlt | hgt := hne.lt_or_gt
  · have hu : selectSub (dispersion (subA u)) (dispersion (subB u)) = .a := by rwa [hA, hB, selectSub_a_iff]
    rw [classifyBits_selA hu, classifyBits_selB ((selectSub_b_iff _ _).2 hlt.le), hB, (hswap j hj).1]
  · have hu : selectSub (dispersion (subA u)) (dispersion (subB u)) = .b := by
      rw [hA, hB, selectSub_b_iff]
      exact hgt.le
    rw [classifyBits_selB hu, classifyBits_selA ((selectSub_a_iff _ _).2 hgt), hA, (hswap j hj).2]

/-! ### Two levels (R115 d) -/

section TwoLevels
variable {m short long : Nat} (hshort : short ≤ m) (hlong : m < long)
include hshort hlong

theorem bitOf_twoLevel (b : Bool) : bitOf (40 * m) (if b then long else short) = b := by
  cases b
  · exact decide_eq_false (by simpa using hshort)
  · exact decide_eq_true (by simpa using hlong)

theorem dispersion_twoLevel_pos {x : Vector Nat 40} {bits : Vector Bool 40}
    (hx : ∀ (j : Nat) (h : j < 40), x[j] = if bits[j] then long else short)
    (h1 : ∃ (j : Nat) (h : j < 40), bits[j] = true) (h0 : ∃ (j : Nat) (h : j < 40), bits[j] = false) :
    0 < dispersion x := by
  obtain ⟨i, hi, hbi⟩ := h1
  obtain ⟨j, hj, hbj⟩ := h0
  refine dispersion_pos_of_ne hi hj ?_
  rw [hx, hx, hbi, hbj]
  exact (hshort.trans_lt hlong).ne'

end TwoLevels

/-- Settles O31: the markers do not disperse and the data runs do; the threshold is 40 markers. -/
theorem twoLevelTailIsReadExactly : Obligations.TwoLevelTailIsReadExactly := by
  intro t m short long bits hshort hlong h1 h0
  constructor
  · intro ht
    have hA (j : Nat) (hj : j < 40) : (subA t)[j] = m := (subA_get t j hj).trans (ht j hj).1
    have hB (j : Nat) (hj : j < 40) : (subB t)[j] = if bits[j] then long else short :=
      (subB_get t j hj).trans (ht j hj).2
    have hsel : selectSub (dispersion (subA t)) (dispersion (subB t)) = .b := by
      rw [selectSub_b_iff, dispersion_constant hA]
      exact Nat.zero_le _
    refine ⟨hsel, Vector.ext fun j hj => ?_⟩
    rw [classifyBits_selB hsel, sumOf_constant hA, (ht j hj).2, bitOf_twoLevel hshort hlong]
  · intro ht
    have hA (j : Nat) (hj : j < 40) : (subA t)[j] = if bits[j] then long else short :=
      (subA_get t j hj).trans (ht j hj).2
    have hB (j : Nat) (hj : j < 40) : (subB t)[j] = m := (subB_get t j hj).trans (ht j hj).1
    have hsel : selectSub (dispersion (subA t)) (dispersion (subB t)) = .a := by
      rw [selectSub_a_iff, dispersion_constant hB]
      exact dispersion_twoLevel_pos hshort hlong hA h1 h0
    refine ⟨hsel, Vector.ext fun j hj => ?_⟩
    rw [classifyBits_selA hsel, sumOf_constant hB, (ht j hj).2, bitOf_twoLevel hshort hlong]

/-! ### Equal entries (R116 b) -/

/-- A tail without features ties, and no entry exceeds the mean. -/
theorem classifyBits_constant {t : Vector Nat 80} {v : Nat} (h : ∀ (k : Nat) (hk : k < 80), t[k] = v) :
    classifyBits t = Vector.replicate 40 false := by
  have hA (j : Nat) (hj : j < 40) : (subA t)[j] = v := (subA_get t j hj).trans (h ..)
  have hsel : selectSub (dispersion (subA t)) (dispersion (subB t)) = .b := by
    rw [selectSub_b_iff, dispersion_constant hA]
    exact Nat.zero_le _
  refine Vector.ext fun j hj => ?_
  rw [classifyBits_selB hsel, sumOf_constant hA, h, Vector.getElem_replicate]
  exact decide_eq_false (lt_irrefl _)

end Sys2Proof.Machine
end

section
/-! PROOFS, 42_classify.md, part 3. CLASSIFY on a short buffer and on a long one (R106 to R108), and the two stages after it
that deliver an accepted frame (R71). -/

namespace Sys2Proof.Machine

/-- The block after CLASSIFY of the tail `t` (R106). -/
def State.classified (s : State) (t : Vector Nat 80) : State :=
  { s with phase := .decode, wk := classifyWork { s.wk with n := s.raw.length } t }

/-- The bits are those of the tail. Said by rewriting: a proof by `rfl` would evaluate `classifyBits` of a variable. -/
@[simp] theorem State.classified_bits (s : State) (t : Vector Nat 80) : (s.classified t).wk.bits = classifyBits t := by
  simp only [State.classified, classifyWork]

/-- `t` is the last 80 entries of the buffer (R108). -/
def Memory.HasTail (m : Memory) (t : Vector Nat 80) : Prop :=
  ∀ (k : Nat) (h : k < 80), m.read (m.length - 80 + k) = some t[k]

/-- Behind the length test CLASSIFY loads the tail (R107, R108). -/
theorem execClassify_of_long {s : State} (h : 80 ≤ s.raw.length) :
    ∃ t, s.raw.HasTail t ∧ execClassify s = .next (s.classified t) := by
  obtain ⟨hlt, -⟩ | ⟨-, t, hload, heq⟩ := execClassify_cases s
  · exact absurd hlt h.not_gt
  · exact ⟨t, Memory.load_read hload, heq⟩

/-- Settles O26: a short buffer by `execClassify_of_short`, a long one by `execClassify_of_long`. -/
theorem shortRawRaisesInsufficientSamples : Obligations.ShortRawRaisesInsufficientSamples := fun _ =>
  ⟨fun hshort => execClassify_of_short hshort, fun hlong =>
    let ⟨_, _, heq⟩ := execClassify_of_long hlong
    ⟨_, heq, rfl, rfl⟩⟩

/-- Settles O27: the registers of `classifyWork`, and the bits of each selection. -/
theorem classifyComputesItsRegisters : Obligations.ClassifyComputesItsRegisters := by
  intro s hlong
  obtain ⟨t, htail, heq⟩ := execClassify_of_long hlong
  refine ⟨_, heq, ?_⟩
  simp only [State.classified, classifyWork]
  refine ⟨trivial, htail, sumOf_subA t, sumSqOf_subA t, sumOf_subB t, sumSqOf_subB t, dispersion_add_sq _,
    dispersion_add_sq _, fun hgt => ?_, fun hle => ?_, trivial⟩
  · have hsel := (selectSub_a_iff _ _).2 hgt
    exact ⟨hsel, classifyThr_selA hsel, classifyBits_selA_iff hsel⟩
  · have hsel := (selectSub_b_iff _ _).2 (not_lt.1 hle)
    exact ⟨hsel, classifyThr_selB hsel, classifyBits_selB_iff hsel⟩

/-- Settles O28: both buffers have the same tail, and the bits are those of the tail. -/
theorem preambleIsIgnored : Obligations.PreambleIsIgnored := by
  intro s u hs hu hsame
  obtain ⟨t, htail, heq⟩ := execClassify_of_long hs
  obtain ⟨t', htail', heq'⟩ := execClassify_of_long hu
  have htt' : t = t' := Vector.ext fun k hk =>
    Option.some.inj ((htail k hk).symm.trans ((hsame k hk).trans (htail' k hk)))
  refine ⟨_, _, heq, heq', ?_⟩
  rw [State.classified_bits, State.classified_bits, htt']

/-! ### From the bits to the Reading -/

/-- The block after DECODE and COMMIT of an accepted frame (R119, R123). -/
def State.delivered (s : State) : State :=
  { s with
    phase := .idle
    wk := { (decoded s).wk with ok := true }
    rdg :=
      { valid := true
        hum10 := humidityOf (packBytes s.wk.bits)
        temp10 := temperatureOf (packBytes s.wk.bits)
        ts := s.env.nextClock }
    env := s.afterClock.env }

theorem execDecode_of_accepted {s : State} (h : acceptedBits s.wk.bits = true) :
    execDecode s = .next ((decoded s).setPhase .commit) := if_pos (beq_iff_eq.1 h)

/-- An accepted frame is delivered by the two stages after CLASSIFY. -/
theorem stepN_delivered {s : State} (hp : s.phase = .decode) (hr : s.env.resets = [])
    (h : acceptedBits s.wk.bits = true) : stepN 2 s = .next s.delivered := by
  have hdecode := (step_of_phase hp rfl hr).trans (execDecode_of_accepted h)
  have hcommit : step ((decoded s).setPhase .commit) = .next s.delivered :=
    step_of_phase (s := (decoded s).setPhase .commit) rfl rfl hr
  exact (stepN_succ_of_step hdecode).trans ((stepN_one _).trans hcommit)

theorem packBytes_zero : packBytes (Vector.replicate 40 false) = Vector.replicate 5 0 := by decide

theorem acceptedBits_zero : acceptedBits (Vector.replicate 40 false) = true := by
  rw [acceptedBits, packBytes_zero]
  rfl

/-- Settles O32: the bits of such a tail are all zero, and the all-zero frame is accepted. -/
theorem featurelessTailIsAnAllZeroReading : Obligations.FeaturelessTailIsAnAllZeroReading := by
  intro s v hp hr hlong hv
  obtain ⟨t, htail, heq⟩ := execClassify_of_long hlong
  have hbits : (s.classified t).wk.bits = Vector.replicate 40 false := by
    rw [State.classified_bits, classifyBits_constant fun k hk => Option.some.inj ((htail k hk).symm.trans (hv k hk))]
  have hclassify : step s = .next (s.classified t) := (step_of_phase hp rfl hr).trans heq
  have hdeliver := stepN_delivered (s := s.classified t) rfl hr (hbits ▸ acceptedBits_zero)
  refine ⟨_, (stepN_succ_of_step hclassify).trans hdeliver, rfl, rfl, ?_⟩
  rw [State.delivered, hbits, packBytes_zero]
  rfl

end Sys2Proof.Machine
end

section
/-! PROOFS, 43_decode.md. DECODE's bytes and checksum as numbers, its two outcomes, and the state COMMIT leaves. -/

namespace Sys2Proof.Machine

/-- R63 for the bytes DECODE writes. -/
theorem packBytes_toNat (bits : Vector Bool 40) (i : Nat) (h : i < 5) :
    (packBytes bits)[i].toNat = ∑ k : Fin 8, bits[8 * i + k.val].toNat * 2 ^ (7 - k.val) := by
  rw [packBytes_get]
  exact (bytesArePackedMsbFirst bits ⟨i, h⟩).1

theorem checksum_toNat (b : Vector Byte 5) :
    (checksum b).toNat = (b[0].toNat + b[1].toNat + b[2].toNat + b[3].toNat) % 256 := by
  rw [checksum, BitVec.toNat_ofNat]
  exact Nat.mod_mod _ _

/-- Settles O34: by either outcome of the comparison the bytes and the sum are those of `decoded`. -/
theorem decodePacksAndChecks : Obligations.DecodePacksAndChecks := by
  intro s
  obtain ⟨heq, hexec⟩ | ⟨hne, hexec⟩ := execDecode_cases s
  · exact ⟨_, hexec, packBytes_toNat _, checksum_toNat _, fun _ => rfl, fun hne => absurd heq hne⟩
  · exact ⟨_, hexec, packBytes_toNat _, checksum_toNat _, fun heq => absurd heq hne, fun _ => rfl⟩

/-- Settles O36: twelve bits hold both values (R124), and the clock answer is the only input drawn. -/
theorem commitWritesTheReading : Obligations.CommitWritesTheReading := fun _ =>
  ⟨_, rfl, rfl, humidityOf_toNat _, temperatureOf_toNat _, rfl, rfl⟩

end Sys2Proof.Machine
end

section
/-! PROOFS, 44_cache_ops.md, part 1. The staleness check, and what an operation that runs a read cycle does: it starts the
cycle (`exec_of_stale`), answers at once (`exec_of_fresh`) or returns from its cycle (`exec_of_pending`). -/

namespace Sys2Proof.Machine

/-! ### The staleness check (R132) -/

theorem staleDrawsClock_iff (s : State) :
    s.staleDrawsClock = true ↔ s.rdg.valid = true ∧ s.cfg.cacheDisabled = false := by
  simp [State.staleDrawsClock]

theorem stale_of_draws {s : State} (h : s.staleDrawsClock = true) :
    s.stale = windowElapsed s s.env.nextClock ∧ s.afterStale = s.afterClock :=
  ⟨if_pos h, if_pos h⟩

theorem stale_of_not_draws {s : State} (h : ¬ s.staleDrawsClock = true) : s.stale = true ∧ s.afterStale = s :=
  ⟨if_neg h, if_neg h⟩

theorem stale_of_cacheDisabled {s : State} (h : s.cfg.cacheDisabled = true) : s.stale = true ∧ s.afterStale = s :=
  stale_of_not_draws (by simp [staleDrawsClock_iff, h])

/-- Only a cached Reading is fresh, and its check draws one clock answer. -/
theorem valid_of_fresh {s : State} (h : s.stale = false) : s.rdg.valid = true ∧ s.afterStale = s.afterClock := by
  by_cases hd : s.staleDrawsClock = true
  · exact ⟨((staleDrawsClock_iff s).1 hd).1, (stale_of_draws hd).2⟩
  · cases h.symm.trans (stale_of_not_draws hd).1

/-- Settles O37: the two ways to draw no clock answer, and the comparison at the one drawn. -/
theorem stalenessCheck : Obligations.StalenessCheck := by
  intro s
  refine ⟨fun hv => stale_of_not_draws (by simp [staleDrawsClock_iff, hv]), stale_of_cacheDisabled, fun hv hc => ?_⟩
  obtain ⟨hstale, hafter⟩ := stale_of_draws ((staleDrawsClock_iff s).2 ⟨hv, hc⟩)
  refine ⟨?_, hafter⟩
  rw [hstale]
  exact decide_eq_true_iff

/-! ### The answer of an operation -/

/-- The value an accessor answers with where a Reading is cached (R135 to R138). -/
def State.payload (s : State) : Instr → Nat
  | .tempc => s.rdg.celsius10
  | .tempf => s.rdg.fahrenheit100
  | .humid => s.rdg.humidity10
  | .since => s.env.nextClock - s.rdg.ts
  | _ => 0

/-- What an operation that runs cycles answers when it gives its response in `s` (R134, R139). -/
def State.answer (s : State) : Instr → Response
  | .force => if s.wk.ok then .isTrue else .isFalse
  | i => if s.rdg.valid then .value (s.payload i) else .absent

/-- The environment after that answer: SINCE draws a clock answer for its value (R138, D30). -/
def State.envAtAnswer (s : State) : Instr → Env
  | .since => if s.rdg.valid then s.afterClock.env else s.env
  | _ => s.env

/-- The block when the operation `i` has answered in `s` and is over. -/
def State.answered (s : State) (i : Instr) : State := (s.setEnv (s.envAtAnswer i)).finish (s.answer i)

theorem answer_of_ne_force {i : Instr} (s : State) (hi : i ≠ .force) :
    s.answer i = if s.rdg.valid then .value (s.payload i) else .absent := by
  cases i with
  | force => exact absurd rfl hi
  | _ => rfl

theorem answer_of_absent {i : Instr} {s : State} (hi : i ≠ .force) (h : s.rdg.valid = false) : s.answer i = .absent := by
  simp [answer_of_ne_force s hi, h]

theorem answer_of_valid {i : Instr} {s : State} (hi : i ≠ .force) (h : s.rdg.valid = true) :
    s.answer i = .value (s.payload i) := by
  simp [answer_of_ne_force s hi, h]

/-- The four values, operation by operation. -/
theorem answer_values {i : Instr} {s : State} (h : s.rdg.valid = true) :
    (i = .tempc → s.answer i = .value s.rdg.celsius10) ∧ (i = .tempf → s.answer i = .value s.rdg.fahrenheit100) ∧
      (i = .humid → s.answer i = .value s.rdg.humidity10) ∧
      (i = .since → s.answer i = .value (s.env.nextClock - s.rdg.ts)) := by
  refine ⟨?_, ?_, ?_, ?_⟩ <;> rintro rfl <;> exact if_pos h

theorem envAtAnswer_since {s : State} (h : s.rdg.valid = true) : s.envAtAnswer .since = s.afterClock.env := if_pos h

theorem deliverValue_eq {i : Instr} {f : Rdg → Nat} (hi : i ≠ .force) (hval : ∀ s : State, s.payload i = f s.rdg)
    (henv : ∀ s : State, s.envAtAnswer i = s.env) : deliverValue f = (State.answered · i) := by
  funext s
  obtain ⟨hv, h⟩ | ⟨hv, h⟩ := deliverValue_cases f s
  all_goals
    simp [h, State.answered, State.setEnv, answer_of_ne_force s hi, hval, henv, hv]

theorem deliverSince_eq : deliverSince = (State.answered · .since) := by
  funext s
  obtain ⟨hv, h⟩ | ⟨hv, h⟩ := deliverSince_cases s
  all_goals
    rw [h, State.answered, State.envAtAnswer, answer_of_ne_force s (by nofun), hv]
    rfl

/-! ### Performing an operation -/

/-- The four accessors have one skeleton (R134). -/
theorem exec_accessor {i : Instr} (s : State) (hc : i.runsCycle = true) (hi : i ≠ .force) :
    exec i s = .next (access i (State.answered · i) s) := by
  cases i with
  | tempc | tempf | humid =>
    exact congrArg (fun d => Host.Outcome.next (access _ d s))
      (deliverValue_eq (by nofun) (fun _ => rfl) fun _ => rfl)
  | since => exact congrArg (fun d => Host.Outcome.next (access _ d s)) deliverSince_eq
  | force => exact absurd rfl hi
  | _ => cases hc

/-- Back from its cycle an operation answers (R134, R139). -/
theorem exec_of_pending {i : Instr} {s : State} (hc : i.runsCycle = true) (hn : s.seq.pending = some i) :
    exec i s = .next (s.answered i) := by
  have hres := (resuming_iff s i).2 hn
  by_cases hi : i = .force
  · subst hi
    exact (if_pos hres).trans (congrArg _ (apply_ite s.finish _ _ _).symm)
  · exact (exec_accessor s hc hi).trans (congrArg _ (if_pos hres))

/-- An operation not in progress that answers leaves the sequencer as it is. -/
theorem answered_of_not_pending {i : Instr} {s : State} (h : s.seq.pending = none) :
    s.answered i = (s.setEnv (s.envAtAnswer i)).respond (s.answer i) := by
  have hseq : { s.seq with pending := none } = s.seq := by rw [← h]
  simp [State.answered, State.finish, State.respond, State.setEnv, hseq]

/-- With a fresh Reading an accessor answers after its staleness check (R134, R142). -/
theorem exec_of_fresh {i : Instr} {s : State} (hc : i.runsCycle = true) (hi : i ≠ .force) (hp : s.phase = .idle)
    (hn : s.seq.pending = none) (h : s.stale = false) :
    exec i s = .next ((s.afterClock.setEnv (s.afterClock.envAtAnswer i)).respond (.value (s.afterClock.payload i))) := by
  obtain ⟨hv, hafter⟩ := valid_of_fresh h
  have hres : ¬ s.resuming i = true := by simp [resuming_iff, hn]
  rw [exec_accessor s hc hi, access, if_neg hres, if_pos hp, if_neg (ne_true_of_eq_false h), hafter,
    answered_of_not_pending (s := s.afterClock) hn, answer_of_valid (s := s.afterClock) hi hv]

/-- The environment when an operation starts its cycle: FORCE does so unasked, an accessor after its staleness check. -/
def State.envAtStart (s : State) (i : Instr) : Env := if i = .force then s.env else s.afterStale.env

theorem clockedTo_envAtStart (s : State) (i : Instr) : s.env.ClockedTo (s.envAtStart i) := by
  unfold State.envAtStart
  split
  · exact .refl _
  · exact s.clockedTo_afterStale

/-- FORCE, or an accessor that finds no fresh Reading, starts one cycle (R133, R134, R139). -/
theorem exec_of_stale {i : Instr} {s : State} (hc : i.runsCycle = true) (hp : s.phase = .idle)
    (hn : s.seq.pending ≠ some i) (h : i = .force ∨ s.stale = true) :
    exec i s = .next ((s.setEnv (s.envAtStart i)).startCycle i) := by
  have hres : ¬ s.resuming i = true := mt (resuming_iff s i).1 hn
  by_cases hi : i = .force
  · subst hi
    exact (if_neg hres).trans (if_pos hp)
  · rw [exec_accessor s hc hi, access, if_neg hres, if_pos hp, if_pos (h.resolve_left hi), State.envAtStart, if_neg hi,
      ← s.afterStale_eq]

/-! ### The accessors (R134 to R138, R142) -/

/-- Settles O38: `exec_of_fresh` for the three value accessors, whose answers draw no clock answer of their own. -/
theorem freshAccessorsAnswerAtOnce : Obligations.FreshAccessorsAnswerAtOnce := by
  intro s hp hn hfresh
  rw [(valid_of_fresh hfresh).2]
  exact ⟨exec_of_fresh rfl (by nofun) hp hn hfresh, exec_of_fresh rfl (by nofun) hp hn hfresh,
    exec_of_fresh rfl (by nofun) hp hn hfresh⟩

/-- Settles O39: `exec_of_stale` for the four accessors. -/
theorem staleAccessorsStartOneCycle : Obligations.StaleAccessorsStartOneCycle := by
  intro i s hc hi hp hn hstale
  rw [exec_of_stale hc hp hn (.inr hstale), State.envAtStart, if_neg hi, s.afterStale_eq]
  rfl

/-- Settles O40: with caching disabled the staleness check is positive and draws nothing. -/
theorem disabledCacheAlwaysRunsACycle : Obligations.DisabledCacheAlwaysRunsACycle := by
  intro i s hc hp hd
  obtain ⟨hstale, hafter⟩ := stale_of_cacheDisabled hd
  refine ⟨fun hn => ⟨_, exec_of_stale hc hp hn (.inr hstale), rfl, rfl, rfl, ?_, rfl⟩, fun hn hi =>
    ⟨_, s.answer i, exec_of_pending hc hn, rfl, rfl, answer_of_absent hi, answer_values⟩⟩
  rw [State.startCycle_env, State.setEnv_env, State.envAtStart, hafter, ite_self]

/-- Settles O41: `exec_of_pending` for the three value accessors. -/
theorem accessorsAnswerAfterTheCycle : Obligations.AccessorsAnswerAfterTheCycle := fun _ =>
  ⟨exec_of_pending rfl, exec_of_pending rfl, exec_of_pending rfl⟩

/-- Settles O42: the answer of SINCE is drawn last, and a clock answer is never below the last one. -/
theorem sinceAnswersTheElapsedTime : Obligations.SinceAnswersTheElapsedTime := by
  intro s hts
  refine ⟨fun hp hn hfresh => ?_, fun hn hv => ?_, fun hn hv => ?_⟩
  · obtain ⟨hv, -⟩ := valid_of_fresh hfresh
    refine ⟨s.afterClock.afterClock.respond (.value (s.afterClock.payload .since)), ?_, rfl, ?_, rfl, rfl, rfl⟩
    · rw [exec_of_fresh rfl (by nofun) hp hn hfresh, envAtAnswer_since (s := s.afterClock) hv]
      rfl
    · exact (hts hv).trans (s.env.now_le_nextClock.trans s.afterClock.env.now_le_nextClock)
  · refine ⟨s.afterClock.finish (.value (s.payload .since)), ?_, rfl, (hts hv).trans s.env.now_le_nextClock, rfl, rfl,
      rfl⟩
    rw [exec_of_pending rfl hn, State.answered, answer_of_valid (by nofun) hv, envAtAnswer_since hv]
    rfl
  · rw [exec_of_pending rfl hn, State.answered, answer_of_absent (by nofun) hv, State.envAtAnswer, hv]
    rfl

/-- Settles O43, by arithmetic on the two payloads. -/
theorem fahrenheitIsExact : Obligations.FahrenheitIsExact := by
  intro r
  rw [Rdg.fahrenheit100, Rdg.celsius10]
  push_cast
  ring

/-! ### FORCE and CLOSE (R139, R140) -/

/-- Settles O44: FORCE asks for no staleness, and its answer is `ok`. -/
theorem forceRunsACycleAndReports : Obligations.ForceRunsACycleAndReports := fun _ =>
  ⟨fun hp hn => exec_of_stale rfl hp (by simp [hn]) (.inl rfl), exec_of_pending rfl⟩

/-- Settles O45: CLOSE is accepted in both phases. -/
theorem closeReleasesThePin : Obligations.CloseReleasesThePin := fun _ hp => if_pos hp

end Sys2Proof.Machine
end

section
/-! PROOFS, 44_cache_ops.md, part 2. A read cycle from the port: the operation that starts it and the capture
(`stepN_cycleCaptured`), an accepted tail and the answer (`stepN_cycleDelivered`), and the tails of two-level frames. -/

namespace Sys2Proof.Machine

/-! ### The start and the capture -/

theorem Env.ClockedTo.resets {e e' : Env} (h : e.ClockedTo e') : e'.resets = e.resets := by rw [h.frame]

/-- An operation `i` that starts a cycle stands at the port in `IDLE`, on a line that carries `runs` within the bound and
then holds still; the two holds of the handshake end. -/
structure State.StartsCycle (s : State) (c : HostCmd) (cmds : List HostCmd) (i : Instr) (l : Level) (runs : List Nat)
    (rest : List Level) : Prop where
  phase : s.phase = .idle
  pending : s.seq.pending = none
  resets : s.env.resets = []
  delays : ∀ b ∈ s.env.delays.take 2, b = true
  cmds : s.port.cmds = c :: cmds
  decode : decodeHostCmd c = .instr i
  runsCycle : i.runsCycle = true
  stale : i = .force ∨ s.stale = true
  bound : 1 ≤ s.cal.maxIterations
  runs_lt : ∀ r ∈ runs, r < s.cal.maxIterations
  levels : s.env.levels = samplesOf l (runs ++ [s.cal.maxIterations]) ++ rest

/-- The block once `i` has been taken from the port and has started its cycle (R133). -/
def State.cycleStarted (s : State) (i : Instr) : State := (s.takeCmd.setEnv (s.envAtStart i)).startCycle i

/-- The block at the end of the capture of that cycle. -/
def State.cycleCaptured (s : State) (i : Instr) (l : Level) (runs : List Nat) (rest : List Level) : State :=
  (s.cycleStarted i).drivenHigh.drivenLow.released.captured l runs rest

/-- The staleness check does not look at the port. -/
theorem afterStale_takeCmd (s : State) : s.takeCmd.afterStale = s.afterStale.takeCmd :=
  (apply_ite State.takeCmd (s.staleDrawsClock = true) s.afterClock s).symm

theorem envAtStart_takeCmd (s : State) (i : Instr) : s.takeCmd.envAtStart i = s.envAtStart i := by
  simp only [State.envAtStart, afterStale_takeCmd, State.takeCmd_env]

section Cycle
variable {s : State} {c : HostCmd} {cmds : List HostCmd} {i : Instr} {l : Level} {runs : List Nat} {rest : List Level}
  (h : s.StartsCycle c cmds i l runs rest)
include h

theorem step_cycleStarted : step s = .next (s.cycleStarted i) := by
  rw [step_of_command (resetNow_of_no_resets h.resets) (decodeStage_of_rests (.inr (.inr (.inl h.phase)))) h.pending
      h.cmds h.decode, ticked_of_no_resets h.resets, State.cycleStarted, ← envAtStart_takeCmd]
  exact exec_of_stale h.runsCycle h.phase (by simp [h.pending]) h.stale

/-- One step for the operation, three for the handshake (R91), one for each read of the capture (R98). -/
theorem stepN_cycleCaptured :
    stepN (captureReads s.cal.maxIterations runs + 4) s = .next (s.cycleCaptured i l runs rest) := by
  have he := clockedTo_envAtStart s i
  have hd : ∀ b ∈ (s.cycleStarted i).env.delays.take 2, b = true := he.delays ▸ h.delays
  have hr : (s.cycleStarted i).env.resets = [] := he.resets.trans h.resets
  have hl : (s.cycleStarted i).env.levels = samplesOf l (runs ++ [s.cal.maxIterations]) ++ rest :=
    he.levels.trans h.levels
  have hrelease : stepN 4 s = .next (s.cycleStarted i).drivenHigh.drivenLow.released :=
    (stepN_succ_of_step (step_cycleStarted h)).trans (stepN_handshake (s := s.cycleStarted i) rfl rfl hd hr)
  have hcapture := stepN_capture (s := (s.cycleStarted i).drivenHigh.drivenLow.released)
    ⟨rfl, rfl, hr, h.bound, h.runs_lt, hl⟩
  rw [Nat.add_comm, stepN_add hrelease]
  exact hcapture

end Cycle

/-! ### An accepted tail -/

theorem execClassify_of_load {s : State} {t : Vector Nat 80} (h : s.raw.load (s.raw.length - 80) 80 = some t) :
    execClassify s = .next (s.classified t) := by
  obtain ⟨hshort, -⟩ | ⟨-, t', hload, heq⟩ := execClassify_cases s
  · have hle := (Memory.load_isSome _ _ _).1 (Option.isSome_of_eq_some h)
    omega
  · obtain rfl := Option.some.inj (h.symm.trans hload)
    exact heq

/-- From a capture whose tail is accepted to the Reading: CLASSIFY, DECODE and COMMIT. -/
theorem stepN_accepted {s : State} {t : Vector Nat 80} (hp : s.phase = .classify) (hr : s.env.resets = [])
    (hload : s.raw.load (s.raw.length - 80) 80 = some t) (hacc : acceptedBits (classifyBits t) = true) :
    stepN 3 s = .next (s.classified t).delivered := by
  have hclassify : step s = .next (s.classified t) := (step_of_phase hp rfl hr).trans (execClassify_of_load hload)
  have hbits : acceptedBits (s.classified t).wk.bits = true :=
    (congrArg acceptedBits (State.classified_bits s t)).trans hacc
  exact (stepN_succ_of_step hclassify).trans (stepN_delivered (s := s.classified t) rfl hr hbits)

/-- The block when the cycle that captured `runs` has delivered the frame of `tail` and `i` returns from it. -/
def State.cycleDelivered (s : State) (i : Instr) (l : Level) (runs : List Nat) (tail : Vector Nat 80)
    (rest : List Level) : State :=
  ((s.cycleCaptured i l runs rest).classified tail).delivered

theorem step_return {i : Instr} {s : State} (hp : s.phase = .idle) (hr : s.env.resets = [])
    (hn : s.seq.pending = some i) (hc : i.runsCycle = true) : step s = .next (s.answered i) := by
  rw [step_of_pending (resetNow_of_no_resets hr) (decodeStage_of_rests (.inr (.inr (.inl hp)))) hn,
    ticked_of_no_resets hr]
  exact exec_of_pending hc hn

/-- After the capture: one step for CLASSIFY, two for DECODE and COMMIT, one for the answer. -/
theorem stepN_cycleDelivered {s : State} {c : HostCmd} {cmds : List HostCmd} {i : Instr} {l : Level} {runs : List Nat}
    {rest : List Level} (h : s.StartsCycle c cmds i l runs rest) {tail : Vector Nat 80}
    (hload : Memory.load runs (runs.length - 80) 80 = some tail) (hacc : acceptedBits (classifyBits tail) = true) :
    stepN (captureReads s.cal.maxIterations runs + 8) s = .next ((s.cycleDelivered i l runs tail rest).answered i) := by
  have hr : (s.cycleCaptured i l runs rest).env.resets = [] := (clockedTo_envAtStart s i).resets.trans h.resets
  have hdeliver : stepN 3 (s.cycleCaptured i l runs rest) = .next (s.cycleDelivered i l runs tail rest) :=
    stepN_accepted (s := s.cycleCaptured i l runs rest) rfl hr hload hacc
  have hreturn : step (s.cycleDelivered i l runs tail rest) =
      .next ((s.cycleDelivered i l runs tail rest).answered i) :=
    step_return (s := s.cycleDelivered i l runs tail rest) rfl hr rfl h.runsCycle
  rw [stepN_add (k := 4) (stepN_cycleCaptured h), stepN_add (k := 1) hdeliver, stepN_one, hreturn]

/-- The Reading after that cycle: the values of the frame, and the clock answer COMMIT draws. -/
theorem cycleDelivered_rdg (s : State) (i : Instr) (l : Level) (runs : List Nat) (tail : Vector Nat 80)
    (rest : List Level) :
    (s.cycleDelivered i l runs tail rest).rdg =
      { valid := true
        hum10 := humidityOf (packBytes (classifyBits tail))
        temp10 := temperatureOf (packBytes (classifyBits tail))
        ts := (s.envAtStart i).nextClock } := by
  rw [State.cycleDelivered, State.delivered, State.classified_bits]
  rfl

/-- Settles O59: `stepN_cycleDelivered`, the state it ends in read field by field. -/
theorem acceptedCycleIsDelivered : Obligations.AcceptedCycleIsDelivered := by
  intro s c cmds i l runs tail rest hp hn hr hd hc hdec hcyc hstale hb hruns hload hacc hl
  have hrun := stepN_cycleDelivered ⟨hp, hn, hr, hd, hc, hdec, hcyc, hstale, hb, hruns, hl⟩ hload hacc
  have hrdg : ((s.cycleDelivered i l runs tail rest).answered i).rdg = _ := cycleDelivered_rdg s i l runs tail rest
  have hvalid : (s.cycleDelivered i l runs tail rest).rdg.valid = true := congrArg Rdg.valid hrdg
  obtain ⟨htempc, htempf, hhumid, hsince⟩ := answer_values (i := i) hvalid
  refine ⟨_, (s.cycleDelivered i l runs tail rest).answer i, hrun, rfl, rfl, ?_, hvalid, ?_, ?_, ?_, rfl, rfl, rfl, rfl,
    ?_, htempc, htempf, hhumid, ?_⟩
  · exact congrArg (fun q : List HostCmd => Port.mk q.tail (s.port.rsps ++ [_])) hc
  · rw [hrdg, humidityOf_toNat, packBytes_get, packBytes_get]
    rfl
  · rw [hrdg, temperatureOf_toNat, packBytes_get, packBytes_get]
    rfl
  · rw [hrdg]
    exact apply_ite Env.nextClock _ _ _
  · rintro rfl
    rfl
  · rintro rfl
    rw [hsince rfl, State.answered, State.finish_env, State.setEnv_env, envAtAnswer_since hvalid]
    rfl

/-! ### Two-level frames, markers first -/

section Pairs
variable (m short long : Nat) (bits : Vector Bool 40)

/-- The entries of a list of pairs whose first components are all `m`. -/
theorem getElem?_pairs {α : Type} (f : α → Nat) (xs : List α) (j : Nat) (hj : j < xs.length) :
    (xs.map fun x => [m, f x]).flatten[2 * j]? = some m ∧
      (xs.map fun x => [m, f x]).flatten[2 * j + 1]? = some (f xs[j]) := by
  induction xs generalizing j with
  | nil => cases hj
  | cons x xs ih =>
    cases j with
    | zero => exact ⟨rfl, rfl⟩
    | succ j => exact ih j (Nat.lt_of_succ_lt_succ hj)

theorem length_pairTail : (pairTail m short long bits).length = 80 := by
  simp [pairTail, List.length_flatten, Function.comp_def]

theorem getElem?_pairTail (j : Nat) (hj : j < 40) :
    (pairTail m short long bits)[2 * j]? = some m ∧
      (pairTail m short long bits)[2 * j + 1]? = some (if bits[j] then long else short) := by
  have h := getElem?_pairs m (fun b => if b then long else short) bits.toList j (by simpa using hj)
  rwa [Vector.getElem_toList] at h

theorem pairTail_lt {b r : Nat} (hm : m < b) (hs : short < b) (hl : long < b)
    (hr : r ∈ pairTail m short long bits) : r < b := by
  simp only [pairTail, List.mem_flatten, List.mem_map] at hr
  obtain ⟨_, ⟨x, -, rfl⟩, hr⟩ := hr
  obtain rfl | rfl := List.mem_pair.1 hr
  · exact hm
  · cases x
    · exact hs
    · exact hl

/-- Behind any preamble CLASSIFY loads exactly the pairs. -/
theorem load_pairTail (preamble : List Nat) :
    ∃ t : Vector Nat 80,
      Memory.load (preamble ++ pairTail m short long bits)
          ((preamble ++ pairTail m short long bits).length - 80) 80 = some t ∧
        ∀ (j : Nat) (h : j < 40), t[2 * j] = m ∧ t[2 * j + 1] = if bits[j] then long else short := by
  have hlen : (preamble ++ pairTail m short long bits).length - 80 = preamble.length := by
    rw [List.length_append, length_pairTail, Nat.add_sub_cancel]
  obtain ⟨t, ht⟩ := Memory.load_tail (m := preamble ++ pairTail m short long bits) (by simp [length_pairTail])
  have entry (k : Nat) (hk : k < 80) : (pairTail m short long bits)[k]? = some t[k] := by
    rw [← Memory.load_read ht k hk, hlen, Memory.read, List.getElem?_append_right (Nat.le_add_right ..),
      Nat.add_sub_cancel_left]
  refine ⟨t, ht, fun j hj => ?_⟩
  obtain ⟨hmarker, hdata⟩ := getElem?_pairTail m short long bits j hj
  exact ⟨Option.some.inj ((entry _ _).symm.trans hmarker), Option.some.inj ((entry _ _).symm.trans hdata)⟩

end Pairs

theorem decodeHostCmd_of_op_five {c : HostCmd} (h : c.op = 5) : decodeHostCmd c = .instr .force := by
  simp [decodeHostCmd, h]

/-- Settles O57: the tail of such a line is read exactly (R115 d), so FORCE delivers it as it does any accepted one. -/
theorem goodFrameIsDelivered : Obligations.GoodFrameIsDelivered := by
  intro s c cmds l preamble m short long bits rest hp hn hr hd hc hop hpre hshort hlong hbound hacc h1 h0 hl
  obtain ⟨t, hload, ht⟩ := load_pairTail m short long bits preamble
  obtain rfl : classifyBits t = bits := ((twoLevelTailIsReadExactly t m short long bits hshort hlong h1 h0).1 ht).2
  have hruns : ∀ r ∈ preamble ++ pairTail m short long (classifyBits t), r < s.cal.maxIterations := fun r hr =>
    (List.mem_append.1 hr).elim (hpre r) (pairTail_lt m short long _ (by omega) (by omega) hbound)
  have hb : 1 ≤ s.cal.maxIterations := by omega
  have hdec := decodeHostCmd_of_op_five hop
  have hstart : s.StartsCycle c cmds .force l _ rest := ⟨hp, hn, hr, hd, hc, hdec, rfl, .inl rfl, hb, hruns, hl⟩
  obtain ⟨u, r, hrun, hphase, hseq, hport, hvalid, hhum, htemp, hts, -, hpin, hcfg, hcal, hforce, -⟩ :=
    acceptedCycleIsDelivered s c cmds .force l _ t rest hp hn hr hd hc hdec rfl (.inl rfl) hb hruns hload hacc hl
  have hu := (stepN_cycleDelivered hstart hload hacc).symm.trans hrun
  refine ⟨u, hrun, hphase, hseq, hforce rfl ▸ hport, hvalid, hhum, htemp, hts.trans (if_pos rfl), hpin, hcfg, hcal, ?_⟩
  cases hu
  rfl

end Sys2Proof.Machine
end

section
/-! PROOFS, 60_exceptions.md, part 1. Every execution ends in a next state (R169), a `Delay` that does not return holds
its phase for ever (R165), and which instructions draw the clock (R164). -/

namespace Sys2Proof.Machine

/-! ### Nothing stops (R169) -/

/-- CLASSIFY's load stands behind its length test; no other meaning has a way to stop. -/
theorem exists_exec_eq_next (i : Instr) (s : State) : ∃ t, exec i s = .next t := by
  cases i with
  | construct p c w =>
    obtain ⟨-, -, h⟩ | ⟨-, -, h⟩ | ⟨-, -, h⟩ | ⟨-, -, h⟩ := execConstruct_cases p c w s <;> exact ⟨_, h⟩
  | tempc | tempf | humid | since | handshake3 | commit => exact ⟨_, rfl⟩
  | force => obtain ⟨-, -, h⟩ | ⟨-, -, h⟩ | ⟨-, -, h⟩ | ⟨-, -, h⟩ := execForce_cases s <;> exact ⟨_, h⟩
  | close => obtain ⟨-, h⟩ | ⟨-, -, h⟩ := execClose_cases s <;> exact ⟨_, h⟩
  | calibrate => obtain ⟨-, h⟩ | ⟨-, -, h⟩ := execCalibrate_cases s <;> exact ⟨_, h⟩
  | handshake1 => obtain ⟨-, h⟩ | ⟨-, -, h⟩ | ⟨-, -, h⟩ := execHandshake1_cases s <;> exact ⟨_, h⟩
  | handshake2 => obtain ⟨-, h⟩ | ⟨-, -, h⟩ | ⟨-, -, h⟩ := execHandshake2_cases s <;> exact ⟨_, h⟩
  | poll => obtain ⟨-, h⟩ | ⟨-, -, -, h⟩ | ⟨-, -, -, h⟩ | ⟨-, -, h⟩ := execPoll_cases s <;> exact ⟨_, h⟩
  | classify => obtain ⟨-, h⟩ | ⟨-, tail, -, h⟩ := execClassify_cases s <;> exact ⟨_, h⟩
  | decode => obtain ⟨-, h⟩ | ⟨-, h⟩ := execDecode_cases s <;> exact ⟨_, h⟩

/-- Settles O8: a step that performs no instruction ends in a next state outright. -/
theorem nothingStops : Obligations.NothingStops := by
  refine ⟨exists_exec_eq_next, fun s => ?_⟩
  obtain ⟨-, h⟩ | ⟨-, ⟨i, u, -, h⟩ | ⟨u, -, h⟩ | ⟨-, h⟩⟩ := step_cases s
  · exact ⟨_, h⟩
  · exact h ▸ exists_exec_eq_next i u
  · exact ⟨_, h⟩
  · exact ⟨_, h⟩

/-! ### A `Delay` that does not return (R165) -/

/-- The block in step 1, its `Delay` requested and not returning (R92, R165). -/
def State.heldHigh (s : State) : State :=
  { s with
    pin := { s.pin with dir := some .output, pull := some .none, out := some .high }
    seq := { s.seq with holding := true }
    env := { s.env with
      delays := s.env.delays.tail
      calls := s.env.calls ++ [.setMode s.cfg.pin .output .none, .write s.cfg.pin .high, .delay s.par.tIdleMs] } }

/-- The block in step 2, its `Delay` requested and not returning (R93, R165). -/
def State.heldLow (s : State) : State :=
  { s with
    pin := { s.pin with out := some .low }
    seq := { s.seq with holding := true }
    env := { s.env with
      delays := s.env.delays.tail
      calls := s.env.calls ++ [.write s.cfg.pin .low, .delay s.par.tStartMs] } }

theorem execHandshake1_of_hangs {s : State} (hd : s.env.nextDelayReturns = false) (hq : s.seq.holding = false) :
    execHandshake1 s = .next s.heldHigh := by
  obtain ⟨hq', -⟩ | ⟨-, hd', -⟩ | ⟨-, -, heq⟩ := execHandshake1_cases s
  · cases hq.symm.trans hq'
  · cases hd.symm.trans hd'
  · rw [heq]
    simp [State.heldHigh, State.requestDelay, State.pinWrite, State.pinMode, hd]

theorem execHandshake2_of_hangs {s : State} (hd : s.env.nextDelayReturns = false) (hq : s.seq.holding = false) :
    execHandshake2 s = .next s.heldLow := by
  obtain ⟨hq', -⟩ | ⟨-, hd', -⟩ | ⟨-, -, heq⟩ := execHandshake2_cases s
  · cases hq.symm.trans hq'
  · cases hd.symm.trans hd'
  · rw [heq]
    simp [State.heldLow, State.requestDelay, State.pinWrite, hd]

theorem stepN_of_fixed {s : State} (h : step s = .next s) (k : Nat) : stepN k s = .next s := by
  induction k with
  | zero => rfl
  | succ k ih => rw [stepN_succ_of_step h, ih]

/-- A hold in progress, in either of its phases, is left by no step. -/
theorem stepN_of_holding {s : State} (hp : s.phase = .hsHigh ∨ s.phase = .hsLow) (hr : s.env.resets = [])
    (hq : s.seq.holding = true) (k : Nat) : stepN k s = .next s := by
  refine stepN_of_fixed ?_ k
  obtain hp | hp := hp
  · exact (step_of_phase hp rfl hr).trans (if_pos hq)
  · exact (step_of_phase hp rfl hr).trans (if_pos hq)

theorem stepN_heldHigh {s : State} (hp : s.phase = .hsHigh) (hr : s.env.resets = [])
    (hd : s.env.nextDelayReturns = false) (hq : s.seq.holding = false) (k : Nat) :
    stepN (k + 1) s = .next s.heldHigh := by
  rw [stepN_succ_of_step ((step_of_phase hp rfl hr).trans (execHandshake1_of_hangs hd hq))]
  exact stepN_of_holding (s := s.heldHigh) (.inl hp) hr rfl k

theorem stepN_heldLow {s : State} (hp : s.phase = .hsLow) (hr : s.env.resets = [])
    (hd : s.env.nextDelayReturns = false) (hq : s.seq.holding = false) (k : Nat) :
    stepN (k + 1) s = .next s.heldLow := by
  rw [stepN_succ_of_step ((step_of_phase hp rfl hr).trans (execHandshake2_of_hangs hd hq))]
  exact stepN_of_holding (s := s.heldLow) (.inr hp) hr rfl k

/-- Settles O20: one step into the hold, which every further step leaves as it is; in the third run a first hold that
ends goes before. -/
theorem unreturnedDelayHangs : Obligations.UnreturnedDelayHangs := by
  intro s k hq hr
  refine ⟨fun hp hd => stepN_heldHigh hp hr hd hq k, fun hp hd => stepN_heldLow hp hr hd hq k, ?_⟩
  intro rest hp hdelays
  have hd1 : s.env.nextDelayReturns = true := by simp [Env.nextDelayReturns, hdelays]
  have hd2 : s.drivenHigh.env.nextDelayReturns = false := by
    simp [Env.nextDelayReturns, State.drivenHigh, hdelays]
  rw [stepN_succ_of_step ((step_of_phase hp rfl hr).trans (execHandshake1_of_returns hd1 hq)),
    stepN_heldLow (s := s.drivenHigh) rfl hr hd2 hq]
  simp [State.heldLow, State.drivenHigh, hdelays]

/-! ### The clock (R164) -/

/-- Of the stages only CALIBRATE and COMMIT draw the clock. -/
theorem Performs.clock_of_stage {i : Instr} {s t : State} {p : Phase} (h : Performs i s t) (hi : i.stage? = some p)
    (hcal : i ≠ .calibrate) (hcommit : i ≠ .commit) : t.env.clockReads = s.env.clockReads ∧ t.env.now = s.env.now := by
  cases h with
  | refused hn | answered _ hn => cases hn.symm.trans hi
  | cycleStarted hc => cases (stage?_of_runsCycle hc).symm.trans hi
  | calibrationFailed | calibrated => exact absurd rfl hcal
  | committed => exact absurd rfl hcommit
  | _ => exact ⟨rfl, rfl⟩

/-- CONSTRUCT, FORCE and CLOSE ask for no staleness and deliver no age, so none of their cases draws the clock. -/
theorem execConstruct_clock {p w : Nat} {c : Bool} {s t : State} (h : execConstruct p c w s = .next t) :
    t.env.clockReads = s.env.clockReads ∧ t.env.now = s.env.now := by
  obtain ⟨-, -, heq⟩ | ⟨-, -, heq⟩ | ⟨-, -, heq⟩ | ⟨-, -, heq⟩ := execConstruct_cases p c w s <;>
    cases heq.symm.trans h <;> exact ⟨rfl, rfl⟩

theorem execForce_clock {s t : State} (h : execForce s = .next t) :
    t.env.clockReads = s.env.clockReads ∧ t.env.now = s.env.now := by
  obtain ⟨-, -, heq⟩ | ⟨-, -, heq⟩ | ⟨-, -, heq⟩ | ⟨-, -, heq⟩ := execForce_cases s <;>
    cases heq.symm.trans h <;> exact ⟨rfl, rfl⟩

theorem execClose_clock {s t : State} (h : execClose s = .next t) :
    t.env.clockReads = s.env.clockReads ∧ t.env.now = s.env.now := by
  obtain ⟨-, heq⟩ | ⟨-, -, heq⟩ := execClose_cases s <;> cases heq.symm.trans h <;> exact ⟨rfl, rfl⟩

/-- Settles O51: the first clause of every outcome, the second of the three remaining host operations and the stages. -/
theorem clockNeverDecreases : Obligations.ClockNeverDecreases := by
  intro i s t h
  have hperf := exec_performs h
  refine ⟨hperf.now_le, fun hcal hcommit htempc htempf hhumid hsince => ?_⟩
  cases i with
  | construct p c w => exact execConstruct_clock h
  | force => exact execForce_clock h
  | close => exact execClose_clock h
  | tempc | tempf | humid | since => contradiction
  | calibrate | handshake1 | handshake2 | handshake3 | poll | classify | decode | commit =>
    exact hperf.clock_of_stage rfl hcal hcommit

end Sys2Proof.Machine
end

section
/-! PROOFS, 60_exceptions.md, part 2. What taking a non-fatal fault changes (R156), and the operation whose cycle
it ends (R158). -/

namespace Sys2Proof.Machine

/-! ### Taking a non-fatal fault (R156) -/

/-- `t` is `s` with a non-fatal fault of this code taken, the working registers apart but for `ok`. -/
structure State.FaultTaken (s t : State) (code : BitVec 3) : Prop where
  frame : t = { s with phase := .idle, wk := t.wk, diag := t.diag }
  ok : t.wk.ok = false
  lastFault : t.diag.lastFault = code
  cto : t.diag.cto = s.diag.cto
  lastLen : t.diag.lastLen = s.diag.lastLen

/-- Every fault but the Calibrator's is taken so, whatever the stage has computed before. -/
theorem State.faultTaken_raise (s : State) (w : Work) {f : Raised} (hf : ∀ d, f ≠ .calibrationFailure d) :
    s.FaultTaken ((s.setWk w).raise f) f.code := by
  cases f with
  | calibrationFailure d => exact absurd rfl (hf d)
  | insufficientSamples | checksumMismatch => exact ⟨rfl, rfl, rfl, rfl, rfl⟩

theorem execClassify_faultTaken {s t : State} (h : execClassify s = .next t) (ht : t.phase = .idle) :
    s.FaultTaken t 3 ∧ t.wk.bits = s.wk.bits := by
  obtain ⟨-, heq⟩ | ⟨-, tail, -, heq⟩ := execClassify_cases s <;> cases heq.symm.trans h
  · exact ⟨s.faultTaken_raise _ nofun, rfl⟩
  · cases ht

theorem execDecode_faultTaken {s t : State} (h : execDecode s = .next t) (ht : t.phase = .idle) :
    s.FaultTaken t 4 ∧ t.wk.bits = s.wk.bits := by
  obtain ⟨-, heq⟩ | ⟨-, heq⟩ := execDecode_cases s <;> cases heq.symm.trans h
  · cases ht
  · exact ⟨s.faultTaken_raise _ nofun, rfl⟩

/-- Settles O53: CLASSIFY and DECODE end in `IDLE` by a fault only, and its frame is read field by field. -/
theorem nonFatalFaultKeepsTheReading : Obligations.NonFatalFaultKeepsTheReading := by
  intro i s t h hi ht
  have hfault : s.FaultTaken t (if i = .classify then 3 else 4) ∧ t.wk.bits = s.wk.bits := by
    obtain rfl | rfl := hi
    · exact execClassify_faultTaken h ht
    · exact execDecode_faultTaken h ht
  obtain ⟨⟨frame, ok, lastFault, cto, lastLen⟩, bits⟩ := hfault
  rw [frame]
  exact ⟨rfl, rfl, rfl, rfl, rfl, rfl, rfl, rfl, rfl, ok, bits, lastFault, cto, lastLen⟩

/-! ### A cycle that ends in a fault (R158) -/

theorem execDecode_of_rejected {s : State} (h : acceptedBits s.wk.bits = false) :
    ∃ t, execDecode s = .next t ∧ s.FaultTaken t 4 :=
  ⟨_, if_neg (beq_eq_false_iff_ne.1 h), s.faultTaken_raise _ nofun⟩

/-- A capture of `runs` ends in a fault: it is too short, or its tail classifies to a frame with a wrong checksum. -/
def Memory.Fails (runs : Memory) : Prop :=
  runs.length < 80 ∨ ∃ tail, runs.load (runs.length - 80) 80 = some tail ∧ acceptedBits (classifyBits tail) = false

/-- From such a capture to its fault: CLASSIFY, and DECODE where the tail is long enough. -/
theorem stepN_faultTaken {s : State} {runs : Memory} (hp : s.phase = .classify) (hr : s.env.resets = [])
    (hraw : s.raw = runs) (h : runs.Fails) :
    ∃ t, stepN (if runs.length < 80 then 1 else 2) s = .next t ∧
      s.FaultTaken t (if runs.length < 80 then 3 else 4) := by
  subst hraw
  by_cases hshort : s.raw.length < 80
  · rw [if_pos hshort, if_pos hshort, stepN_one, step_of_phase hp rfl hr]
    exact ⟨_, execClassify_of_short hshort, s.faultTaken_raise _ nofun⟩
  · obtain ⟨tail, hload, hbad⟩ := h.resolve_left hshort
    have hclassify : step s = .next (s.classified tail) := (step_of_phase hp rfl hr).trans (execClassify_of_load hload)
    have hbits : acceptedBits (s.classified tail).wk.bits = false :=
      (congrArg acceptedBits (State.classified_bits s tail)).trans hbad
    obtain ⟨t, hdecode, ht⟩ := execDecode_of_rejected hbits
    rw [if_neg hshort, if_neg hshort, stepN_succ_of_step hclassify, stepN_one]
    exact ⟨t, (step_of_phase (s := s.classified tail) rfl rfl hr).trans hdecode, { ht with }⟩

/-- The operation whose cycle captured such runs returns in the step after the fault. -/
theorem stepN_cycleAbsorbed {s : State} {c : HostCmd} {cmds : List HostCmd} {i : Instr} {l : Level} {runs : List Nat}
    {rest : List Level} (h : s.StartsCycle c cmds i l runs rest) (hfails : Memory.Fails runs) :
    ∃ u, (s.cycleCaptured i l runs rest).FaultTaken u (if runs.length < 80 then 3 else 4) ∧
      stepN (captureReads s.cal.maxIterations runs + if runs.length < 80 then 6 else 7) s = .next (u.answered i) := by
  have hr : (s.cycleCaptured i l runs rest).env.resets = [] := (clockedTo_envAtStart s i).resets.trans h.resets
  obtain ⟨u, hrun, hu⟩ := stepN_faultTaken (s := s.cycleCaptured i l runs rest) (runs := runs) rfl hr rfl hfails
  have hidle : u.phase = .idle := by rw [hu.frame]
  have hresets : u.env.resets = [] := by
    rw [hu.frame]
    exact hr
  have hpending : u.seq.pending = some i := by
    rw [hu.frame]
    rfl
  have hsteps : (if runs.length < 80 then 6 else 7) = 4 + ((if runs.length < 80 then 1 else 2) + 1) := by
    split <;> rfl
  refine ⟨u, hu, ?_⟩
  rw [hsteps, ← Nat.add_assoc, stepN_add (stepN_cycleCaptured h), stepN_add hrun, stepN_one,
    step_return hidle hresets hpending h.runsCycle]

/-- After a failed cycle FORCE answers FALSE and an accessor from the Reading that was there before (R134, R139). -/
theorem answer_of_faultTaken {s t : State} {code : BitVec 3} (h : s.FaultTaken t code) (i : Instr) :
    (i = .force → t.answer i = .isFalse) ∧ (i ≠ .force → s.rdg.valid = false → t.answer i = .absent) ∧
      (s.rdg.valid = true →
        (i = .tempc → t.answer i = .value s.rdg.celsius10) ∧ (i = .tempf → t.answer i = .value s.rdg.fahrenheit100) ∧
          (i = .humid → t.answer i = .value s.rdg.humidity10) ∧
          (i = .since → t.answer i = .value ((t.answered i).env.now - s.rdg.ts))) := by
  have hrdg : t.rdg = s.rdg := by rw [h.frame]
  rw [← hrdg]
  refine ⟨?_, answer_of_absent, fun hv => ?_⟩
  · rintro rfl
    exact if_neg (ne_true_of_eq_false h.ok)
  · obtain ⟨htempc, htempf, hhumid, hsince⟩ := answer_values (i := i) hv
    refine ⟨htempc, htempf, hhumid, ?_⟩
    rintro rfl
    rw [hsince rfl, State.answered, State.finish_env, State.setEnv_env, envAtAnswer_since hv]
    rfl

/-- Settles O58: `stepN_cycleAbsorbed`, the frame of the fault read field by field. -/
theorem failedCycleIsAbsorbed : Obligations.FailedCycleIsAbsorbed := by
  intro s c cmds i l runs rest hp hn hr hd hc hdec hcyc hstale hb hruns hfails hl
  obtain ⟨u, hu, hrun⟩ := stepN_cycleAbsorbed ⟨hp, hn, hr, hd, hc, hdec, hcyc, hstale, hb, hruns, hl⟩ hfails
  have hport : u.port = { cmds := s.port.cmds.tail, rsps := s.port.rsps } := by
    rw [hu.frame]
    rfl
  have hframe : u.phase = .idle ∧ u.rdg = s.rdg ∧
      u.pin = { s.pin with dir := some .input, pull := some .up, out := some .low } ∧ u.cfg = s.cfg ∧
      u.cal = s.cal := by
    rw [hu.frame]
    exact ⟨rfl, rfl, rfl, rfl, rfl⟩
  obtain ⟨hphase, hrdg, hpin, hcfg, hcal⟩ := hframe
  refine ⟨u.answered i, u.answer i, hrun, hphase, rfl, hrdg, ?_, hu.lastFault, hu.lastLen, hpin, hcfg, hcal,
    answer_of_faultTaken hu i⟩
  simp [State.answered, hport, hc]

end Sys2Proof.Machine
end

section
/-! PROOFS, 70_reset_and_hazards.md. Hardware reset in any phase (R176, R178). -/

namespace Sys2Proof.Machine

/-! ### The step on which the reset input is due (log 7) -/

theorem resetNow_of_due_reset {s : State} {rest : List Nat} (h : s.env.resets = 0 :: rest) : s.env.resetNow = true := by
  simp [Env.resetNow, h]

theorem ticked_of_due_reset {s : State} {rest : List Nat} (h : s.env.resets = 0 :: rest) :
    s.ticked = { s with env := { s.env with resets := rest } } := by
  simp only [State.ticked, Env.tick, h]
  rfl

/-- The whole step: the reset is taken off the input and lands, whatever the phase and the operation in progress. -/
theorem step_of_due_reset {s : State} {rest : List Nat} (h : s.env.resets = 0 :: rest) :
    step s = .next { s with env := { s.env with resets := rest } }.hardwareReset := by
  rw [step_of_resetNow (resetNow_of_due_reset h), ticked_of_due_reset h]

/-- Settles O9, each value as `State.hardwareReset` writes or keeps it. -/
theorem hardwareResetFromAnyState : Obligations.HardwareResetFromAnyState := fun _ _ h =>
  ⟨_, step_of_due_reset h, rfl, rfl, rfl, rfl, rfl, rfl, rfl, rfl, rfl, rfl, rfl⟩

end Sys2Proof.Machine
end

section
/-! PROOFS, 43_decode.md, section 3. The checksum finds every single flipped bit: it fixes each byte of an accepted frame
by the other four, and a flipped bit changes one byte only. -/

namespace Sys2Proof.Machine

/-! ### The bytes of a frame with one bit flipped (R63) -/

theorem byteAt_set_of_ne (bits : Vector Bool 40) {j : Nat} (hj : j < 40) (b : Bool) {i : Fin 5} (hi : i.val ≠ j / 8) :
    byteAt (bits.set j b) i = byteAt bits i := by
  have hbit : ∀ k : Fin 8, (bits.set j b)[8 * i.val + k.val] = bits[8 * i.val + k.val] := fun k =>
    Vector.getElem_set_ne hj _ (by omega)
  simp only [byteAt_eq_ofFnBE, hbit]

theorem byteAt_flip_ne (bits : Vector Bool 40) {j : Nat} (hj : j < 40) :
    byteAt (bits.set j (!bits[j])) ⟨j / 8, by omega⟩ ≠ byteAt bits ⟨j / 8, by omega⟩ := by
  intro heq
  have hbit : (bits.set j (!bits[j]))[8 * (j / 8) + j % 8] = bits[8 * (j / 8) + j % 8] := by
    have hplace (v : Vector Bool 40) :=
      (bytesArePackedMsbFirst v ⟨j / 8, by omega⟩).2 ⟨j % 8, Nat.mod_lt _ (by decide)⟩
    rw [← hplace, heq, hplace]
  simp [Nat.div_add_mod] at hbit

/-! ### The check as an equation of bytes (R121, R122) -/

theorem checksum_eq_add (b : Vector Byte 5) : checksum b = b[0] + b[1] + b[2] + b[3] := by
  apply BitVec.eq_of_toNat_eq
  simp [checksum_toNat]

theorem acceptedBits_iff (bits : Vector Bool 40) :
    acceptedBits bits = true ↔ byteAt bits 0 + byteAt bits 1 + byteAt bits 2 + byteAt bits 3 = byteAt bits 4 := by
  simp only [acceptedBits, beq_iff_eq, checksum_eq_add, packBytes_get]
  rfl

/-- In an accepted frame each byte is determined by the other four. -/
theorem byteAt_eq_of_accepted {v w : Vector Bool 40} (hv : acceptedBits v = true) (hw : acceptedBits w = true) (i : Fin 5)
    (hothers : ∀ k, k ≠ i → byteAt v k = byteAt w k) : byteAt v i = byteAt w i := by
  have hsum : byteAt v 0 + byteAt v 1 + byteAt v 2 + byteAt v 3 - byteAt v 4 =
      byteAt w 0 + byteAt w 1 + byteAt w 2 + byteAt w 3 - byteAt w 4 := by
    rw [(acceptedBits_iff v).1 hv, (acceptedBits_iff w).1 hw, sub_self, sub_self]
  -- The other four bytes cancel, whichever byte is left.
  fin_cases i <;> simp_all [Fin.forall_fin_succ]

theorem acceptedBits_flip {bits : Vector Bool 40} (h : acceptedBits bits = true) {j : Nat} (hj : j < 40) :
    acceptedBits (bits.set j (!bits[j])) = false := by
  refine Bool.eq_false_iff.2 fun hflip => byteAt_flip_ne bits hj ?_
  exact byteAt_eq_of_accepted hflip h _ fun k hk => byteAt_set_of_ne bits hj _ (Fin.val_ne_of_ne hk)

/-! ### DECODE on such a frame -/

/-- DECODE goes on to COMMIT only with an accepted frame. -/
theorem acceptedBits_of_commit {s t : State} (h : execDecode s = .next t) (ht : t.phase = .commit) :
    acceptedBits s.wk.bits = true := by
  obtain ⟨hsum, -⟩ | ⟨-, heq⟩ := execDecode_cases s
  · exact beq_iff_eq.2 hsum
  · cases heq.symm.trans h
    cases ht

/-- Settles O35: the flipped frame is a rejected one, and its fault keeps the Reading. -/
theorem singleBitErrorIsRejected : Obligations.SingleBitErrorIsRejected := by
  intro s u t j hj hs ht hu
  have hrejected : acceptedBits u.wk.bits = false := by
    rw [hu]
    exact acceptedBits_flip (acceptedBits_of_commit hs ht) hj
  obtain ⟨t', ht', hfault⟩ := execDecode_of_rejected hrejected
  refine ⟨t', ht', ?_, hfault.lastFault, ?_⟩ <;> rw [hfault.frame]

end Sys2Proof.Machine
end
